-- ==== Sys2Proof/Word.lean ====
section
/-! DEFINITION. The word types of the block that every later file uses (00_scope.md R9: bit 0 is
the least significant bit, every value is unsigned). -/

namespace Sys2Proof

/-- A byte: a FIFO entry, a payload byte, a status word, an opcode, a selector. -/
abbrev Byte := BitVec 8

/-- A 16-bit operand or the data of a response (30_encoding.md R80, R86). -/
abbrev Half := BitVec 16

/-- A request word, op ++ sel ++ b ++ a (30_encoding.md R80). -/
abbrev ReqWord := BitVec 48

end Sys2Proof
end

