-- ==== Sys2Proof/Config.lean ====
section
/-! DEFINITION. What an implementation fixes (00_scope.md R7, R8) and the free values of the
machine. Every parameter is a field of `Config`, with the source's value as its default where the
source gives one. The types that hold a tick, an address or a pin id have the size of the field that
carries them in a request (30_encoding.md R80, R90), which bounds the parameters
(notes/assumptions/15.md). The machine's state carries its `Config`, so a statement for every state is
a statement for every configuration (notes/assumptions/3.md). -/

namespace Sys2Proof

/-- An Instant: a snapshot of the tick counter (10_state.md R48), of `TICK_BITS` bits, in the 16-bit
operand or data field that carries it (30_encoding.md R80, R86). -/
abbrev Instant := Half

/-- The size of the port field `sel[4:3]` of a pin id (30_encoding.md R90). -/
abbrev PinId.portBits : Nat := 2

/-- The size of the bit field `sel[2:0]` of a pin id (30_encoding.md R90). -/
abbrev PinId.pinBits : Nat := 3

/-- The number of pin ids that a selector can name; which of them are pins, `N_PORTS` and `PORT_PINS`
say. -/
abbrev PinId.count : Nat := 2 ^ PinId.portBits * 2 ^ PinId.pinBits

/-- A pin identifier, `(port, bit)` (10_state.md R36). -/
structure PinId where
  port : Fin (2 ^ PinId.portBits)
  bit  : Fin (2 ^ PinId.pinBits)
deriving DecidableEq, Repr, Inhabited

/-- The level an external circuit applies to a pin (10_state.md R35). -/
inductive ExtLevel where
  | low | high | float
deriving DecidableEq, Repr, Inhabited

/-- The status classes of the TWI peripheral (30_encoding.md R92). -/
inductive StatusClass where
  | start | repStart | slaAck | dataAck | slaNack | dataNack | arbLost | busError | other
deriving DecidableEq, Repr, Inhabited

/-- One row of `STATUS_MAP`: the words `t` with `t & mask = pattern` have class `cls`. -/
structure StatusRow where
  mask    : Byte
  pattern : Byte
  cls     : StatusClass
deriving DecidableEq, Repr

/-- The width of a register (R7: 8 or 16 bits). -/
inductive RegWidth where
  | w8 | w16
deriving DecidableEq, Repr

/-- The capability of one declared Bit (10_state.md R40, R43). -/
inductive BitCap where
  | ro | wo | rw
deriving DecidableEq, Repr

/-- What a read returns at a bit position (10_state.md R42). -/
inductive ReadKind where
  | storage | hwDriven | zero
deriving DecidableEq, Repr

/-- One bit position of a descriptor: undeclared, or a declared Bit (10_state.md R40). -/
inductive BitDecl where
  | undeclared
  | declared (cap : BitCap) (kind : ReadKind)
deriving DecidableEq, Repr

/-- Who owns a register (10_state.md R40). -/
inductive RegOwner where
  | free | timer | twi | port
deriving DecidableEq, Repr

/-- A register descriptor of `REG_TABLE` (10_state.md R40). `bits` lists the positions from bit 0. -/
structure RegDesc where
  addr  : Nat
  width : RegWidth
  mask  : Half
  bits  : List BitDecl
  owner : RegOwner
deriving DecidableEq, Repr

/-- `IRQ_PRIORITY` (R8; 60_exceptions.md R207). -/
inductive IrqPriority where
  | free | timerFirst | twiFirst
deriving DecidableEq, Repr

/-- Which form of the TWI environment is assumed (60_exceptions.md R213, R214). -/
inductive TwiEnv where
  | unconstrained | conforming
deriving DecidableEq, Repr

/-- The widths and counts of R7 that shape the block's values. -/
structure Widths where
  /-- `ADDR_BITS`: width of the TWI target address -/
  addrBits : Nat := 7
  /-- `TICK_BITS`: width of the tick counter and of an Instant -/
  tickBits : Nat := 16
  /-- `N_PORTS`: the number of pin ports -/
  nPorts   : Nat := 3
  /-- `PORT_PINS`: pins per port -/
  portPins : Nat := 8
deriving DecidableEq, Repr

/-- The source's values of R7. -/
def Widths.source : Widths := {}

/-- The parameters of an implementation (R7, R8). -/
structure Config extends Widths where
  /-- `BUF_CAP` -/
  bufCap        : Nat := 32
  /-- `DEBOUNCE_TICKS` -/
  debounceTicks : Nat := 2
  /-- `TICK_HZ`, informative: no rule reads it -/
  tickHz        : Nat := 1000
  /-- the register widths a `REG_TABLE` may use (R7) -/
  regWidths     : List RegWidth := [.w8, .w16]
  /-- `MAX_BUTTONS` -/
  maxButtons    : Nat := 256
  /-- `REG_TABLE`; a register id is a position in it -/
  regTable      : List RegDesc
  /-- `REG_RESET`, by register id; an id past the end has reset value 0 -/
  regReset      : List Half
  /-- `STATUS_MAP`: the first row that matches decides, a word no row matches is `OTHER` (R92) -/
  statusMap     : List StatusRow
  /-- `TWI_SCL_HZ` -/
  twiSclHz      : Nat
  /-- `SDA_PIN` -/
  sdaPin        : PinId
  /-- `SCL_PIN` -/
  sclPin        : PinId
  /-- `SLA_RESET` -/
  slaReset      : Byte
  /-- `BTN_LAST_RESET` -/
  btnLastReset  : Instant := 0#16
  /-- `IRQ_PRIORITY` -/
  irqPriority   : IrqPriority := .free
  /-- the TWI environment assumed (R213 or R214) -/
  twiEnv        : TwiEnv := .unconstrained
deriving DecidableEq, Repr

/-- The step of some agent, with what its environment chose in it (00_scope.md R3; 20_memory.md
R71). -/
inductive Turn where
  /-- the foreground's next step -/
  | foreground
  /-- the Interrupt unit takes IRQ_TIMER (R206) -/
  | takeTimer
  /-- the Interrupt unit takes IRQ_TWI (R206) -/
  | takeTwi
  /-- the Timer source raises a compare match (R212) -/
  | timerMatch
  /-- the TWI peripheral reports status word `t` (R213, R214) -/
  | twiReport (t : Byte)
  /-- an external circuit puts level `l` on pin `p` (R215) -/
  | pinDrive (p : PinId) (l : ExtLevel)
deriving DecidableEq, Repr, Inhabited

/-- DESIGN CHOICE (notes/assumptions/1.md): the `n`-th turn, where no turn was placed from outside.
It has no value that a proof can see, so a claim holds for every order of the agents' steps and for
everything the environment may do (R71). -/
opaque Config.freeTurn : Nat → Turn

/-- DESIGN CHOICE (notes/assumptions/8.md): the `n`-th `draw()` (00_scope.md R10), a free value. -/
opaque Config.draw : Nat → Half

end Sys2Proof
end

