-- ==== Sys2Proof/Syntax.lean ====
section
/-! DEFINITION. The instructions of the block: one constructor for each row of
spec/opcode_table.json (25 requests, 2 events, 9 TWI status classes), with the forms in which an
instruction reaches the block (30_encoding.md). -/

namespace Sys2Proof

/-- The mode of a pin (10_state.md R35; coded 0, 1, 2 by 30_encoding.md R90). -/
inductive PinMode where
  | output | input | inputPullup
deriving DecidableEq, Repr, Inhabited

/-- Why a request is refused, in the order of the checks of 30_encoding.md R87. -/
inductive RefuseReason where
  | illegalOpcode | reservedField | badPayload | badSelector | badMode | ownedRegister | valueWidth
  | badBitSet | capability | noInstance | pinMode | ownedPin
deriving DecidableEq, Repr, Inhabited

/-- A request as it arrives: the 48-bit word and its payload, empty but for `TWI_WRITE`
(30_encoding.md R80, R82). -/
structure Request where
  word    : ReqWord
  payload : List Byte
deriving DecidableEq, Repr, Inhabited

/-- The three ways an instruction reaches the block: a request (R80), an event delivered by the
Interrupt unit (R89), a status word presented by the TWI peripheral (R91). -/
inductive Encoding where
  | request (q : Request)
  | event (id : Byte)
  | status (t : Byte)
deriving DecidableEq, Repr

/-- The instructions. Operands are named as the rules name them. -/
inductive Instr where
  /-- `REG_SET_RAW r, v` (40_register_model.md R104) -/
  | regSetRaw (r : Byte) (v : Half)
  /-- `REG_GET r` (R105) -/
  | regGet (r : Byte)
  /-- `REG_SET_BITS r, m` (R106) -/
  | regSetBits (r : Byte) (m : Half)
  /-- `REG_CLEAR_BITS r, m` (R107) -/
  | regClearBits (r : Byte) (m : Half)
  /-- `REG_READ_BITS r, m` (R108) -/
  | regReadBits (r : Byte) (m : Half)
  /-- `PIN_CONFIGURE p, mode` (41_pin_port.md R120) -/
  | pinConfigure (p : PinId) (mode : PinMode)
  /-- `PIN_SET_HIGH p` (R121) -/
  | pinSetHigh (p : PinId)
  /-- `PIN_SET_LOW p` (R122) -/
  | pinSetLow (p : PinId)
  /-- `PIN_TOGGLE p` (R123) -/
  | pinToggle (p : PinId)
  /-- `PIN_READ p` (R124) -/
  | pinRead (p : PinId)
  /-- `CLK_INIT` (42_clock.md R135) -/
  | clkInit
  /-- `CLK_NOW` (R136) -/
  | clkNow
  /-- `INSTANT_ELAPSED self, start` (R137); `now` is the operand the rule calls `self` -/
  | instantElapsed (now start : Instant)
  /-- `CLK_DROP` (R138) -/
  | clkDrop
  /-- `TWI_INIT` (43_twi_driver.md R151) -/
  | twiInit
  /-- `TWI_SET_ADDRESS addr` (R152) -/
  | twiSetAddress (addr : Byte)
  /-- `TWI_WRITE [bytes]` (R153 to R155); `len` is the payload's length -/
  | twiWrite (payload : List Byte)
  /-- `TWI_DROP` (R156) -/
  | twiDrop
  /-- `BTN_NEW p` (44_button.md R180) -/
  | btnNew (p : PinId)
  /-- `BTN_UPDATE i, now` (R181) -/
  | btnUpdate (i : Byte) (now : Instant)
  /-- `BTN_WAS_PRESSED i` (R182) -/
  | btnWasPressed (i : Byte)
  /-- `CS_ENTER` (45_interrupt_control.md R190) -/
  | csEnter
  /-- `CS_EXIT token` (R191) -/
  | csExit (token : Bool)
  /-- `INT_ENABLE` (R192) -/
  | intEnable
  /-- `INT_DISABLE` (R193) -/
  | intDisable
  /-- event `IRQ_TIMER` (42_clock.md R139; 60_exceptions.md R206 to R210) -/
  | irqTimer
  /-- event `IRQ_TWI` (43_twi_driver.md R157; 60_exceptions.md R206 to R210) -/
  | irqTwi
  /-- handler branch for class `START` (R158) -/
  | twiStatusStart
  /-- handler branch for class `REP_START` (R158) -/
  | twiStatusRepStart
  /-- handler branch for class `SLA_ACK` (R159) -/
  | twiStatusSlaAck
  /-- handler branch for class `DATA_ACK` (R159) -/
  | twiStatusDataAck
  /-- handler branch for class `SLA_NACK` (R160) -/
  | twiStatusSlaNack
  /-- handler branch for class `DATA_NACK` (R161) -/
  | twiStatusDataNack
  /-- handler branch for class `ARB_LOST` (R162) -/
  | twiStatusArbLost
  /-- handler branch for class `BUS_ERROR` (R163) -/
  | twiStatusBusError
  /-- handler branch for class `OTHER` (R164) -/
  | twiStatusOther
deriving DecidableEq, Repr

end Sys2Proof
end

