-- ==== Sys2Proof/Machine/Descriptor.lean ====
section
/-! DEFINITION. Register descriptors (10_state.md R40 to R43) and the check of a configuration
(R41, 20_memory.md R61), with what the widths of 00_scope.md R7 decide: which pins exist and how an
Instant wraps. -/

namespace Sys2Proof

/-- The number of a pin id, `port * 8 + bit` (30_encoding.md R90). -/
def PinId.index (p : PinId) : Fin PinId.count :=
  ⟨p.port.val * 2 ^ PinId.pinBits + p.bit.val, by
    have := p.port.isLt; have := p.bit.isLt
    simp only [PinId.count, PinId.portBits, PinId.pinBits] at *; omega⟩

/-- The pin exists: its port is below `N_PORTS` and its bit below `PORT_PINS` (10_state.md R36). -/
def Widths.hasPin (g : Widths) (p : PinId) : Bool :=
  decide (p.port.val < g.nPorts) && decide (p.bit.val < g.portPins)

/-- The value modulo `2^TICK_BITS` (00_scope.md R7, R17). -/
def Widths.wrap (g : Widths) (x : Half) : Instant := BitVec.ofNat 16 (x.toNat % 2 ^ g.tickBits)

/-- The widths fit the fields that carry them: an address shifted once has 8 bits (10_state.md R31),
an Instant is a 16-bit operand (30_encoding.md R80), a pin id has a 2-bit port and a 3-bit bit
(R90; notes/assumptions/15.md). -/
def Widths.wf (g : Widths) : Bool :=
  decide (g.addrBits ≤ 7) && decide (g.tickBits ≤ 16) &&
  decide (g.nPorts ≤ 2 ^ PinId.portBits) && decide (g.portPins ≤ 2 ^ PinId.pinBits)

/-- The 16-bit word whose bit `i` is 1 exactly when `p i` holds. -/
def maskOf (p : Nat → Bool) : Half :=
  (List.range 16).foldr (fun i acc => if p i then acc ||| (1#16 <<< i) else acc) 0#16

/-- The number of bits of a register. -/
def RegWidth.bits : RegWidth → Nat
  | .w8 => 8
  | .w16 => 16

/-- The number of bytes a register occupies (20_memory.md R60). -/
def RegWidth.bytes : RegWidth → Nat
  | .w8 => 1
  | .w16 => 2

/-- Can software read this bit (R43)? An undeclared position has capability (0,0). -/
def BitDecl.readable : BitDecl → Bool
  | .undeclared => false
  | .declared .ro _ => true
  | .declared .wo _ => false
  | .declared .rw _ => true

/-- Can software write this bit (R43)? -/
def BitDecl.writable : BitDecl → Bool
  | .undeclared => false
  | .declared .ro _ => false
  | .declared .wo _ => true
  | .declared .rw _ => true

/-- The read kind of a position (R42): an undeclared one is `Zero`, a write-only one `HwDriven`. -/
def BitDecl.kind : BitDecl → ReadKind
  | .undeclared => .zero
  | .declared .wo _ => .hwDriven
  | .declared .ro k => k
  | .declared .rw k => k

/-- The declaration at bit position `i`; a position the list does not reach is undeclared. -/
def RegDesc.decl (d : RegDesc) (i : Nat) : BitDecl := d.bits.getD i .undeclared

/-- One position agrees with the mask (R41 a and b: writable exactly inside the mask) and with R42
(only a bit inside the mask is `Storage`; a write-only bit says `HwDriven`). -/
def RegDesc.bitWf (d : RegDesc) (i : Nat) : Bool :=
  ((d.decl i).writable == d.mask.getLsbD i) &&
  ((d.decl i).kind != .storage || d.mask.getLsbD i) &&
  (match d.decl i with
    | .declared .wo k => k == .hwDriven
    | _ => true)

/-- A descriptor is well formed (R41, R42): one declaration for each bit of its width, and every
position, those above the width among them, agrees with the mask. -/
def RegDesc.wf (d : RegDesc) : Bool :=
  d.bits.length == d.width.bits && (List.range 16).all d.bitWf

/-- Two descriptors share no address (20_memory.md R61). -/
def RegDesc.disjoint (d e : RegDesc) : Bool :=
  d.addr + d.width.bytes ≤ e.addr || e.addr + e.width.bytes ≤ d.addr

/-- No descriptor of the list overlaps a later one (20_memory.md R61). -/
def regTableDisjoint : List RegDesc → Bool
  | [] => true
  | d :: ds => ds.all d.disjoint && regTableDisjoint ds

/-- The parameters of R8 are values of their types: the bus lines are pins, `SLA_RESET` has
`ADDR_BITS` bits, `BTN_LAST_RESET` is an Instant, and `MAX_BUTTONS ≤ 256`. -/
def Config.valuesWf (c : Config) : Bool :=
  c.hasPin c.sdaPin && c.hasPin c.sclPin && decide (c.slaReset.toNat < 2 ^ c.addrBits) &&
  decide (c.btnLastReset.toNat < 2 ^ c.tickBits) && decide (c.maxButtons ≤ 256)

/-- The register table is one the model admits: register ids fit `sel` (R40), every descriptor has a
width of R7 and is well formed (R41), and no two overlap (R61). -/
def Config.tableWf (c : Config) : Bool :=
  decide (c.regTable.length ≤ 256) && c.regTable.all RegDesc.wf &&
  c.regTable.all (fun d => c.regWidths.contains d.width) && regTableDisjoint c.regTable

/-- The configurations the model admits (notes/assumptions/4.md). -/
def Config.wf (c : Config) : Bool := c.toWidths.wf && c.valuesWf && c.tableWf

end Sys2Proof
end

