-- ==== Sys2Proof/WellFormed.lean ====
section
/-! DEFINITION. The instructions that can be written down. A mode, a register id, a Button id and a
16-bit operand have a type that holds exactly the values their field admits (30_encoding.md R83,
R90); what is left to check is that a pin id names a pin of the machine (10_state.md R36) and that the
payload of a `TWI_WRITE` fits its 16-bit length (R82). -/

namespace Sys2Proof

/-- `len` of a `TWI_WRITE` may be any value 0..65535 (R82). -/
def payloadFits (payload : List Byte) : Bool := decide (payload.length < 65536)

/-- The instruction has an encoding on a machine with these widths. -/
def Instr.wellFormed (g : Widths) : Instr → Bool
  | .twiWrite payload => payloadFits payload
  | .regSetRaw _ _ => true
  | .regGet _ => true
  | .regSetBits _ _ => true
  | .regClearBits _ _ => true
  | .regReadBits _ _ => true
  | .pinConfigure p _ => g.hasPin p
  | .pinSetHigh p => g.hasPin p
  | .pinSetLow p => g.hasPin p
  | .pinToggle p => g.hasPin p
  | .pinRead p => g.hasPin p
  | .clkInit => true
  | .clkNow => true
  | .instantElapsed _ _ => true
  | .clkDrop => true
  | .twiInit => true
  | .twiSetAddress _ => true
  | .twiDrop => true
  | .btnNew p => g.hasPin p
  | .btnUpdate _ _ => true
  | .btnWasPressed _ => true
  | .csEnter => true
  | .csExit _ => true
  | .intEnable => true
  | .intDisable => true
  | .irqTimer => true
  | .irqTwi => true
  | .twiStatusStart => true
  | .twiStatusRepStart => true
  | .twiStatusSlaAck => true
  | .twiStatusDataAck => true
  | .twiStatusSlaNack => true
  | .twiStatusDataNack => true
  | .twiStatusArbLost => true
  | .twiStatusBusError => true
  | .twiStatusOther => true

end Sys2Proof
end

