-- ==== Sys2Proof/Decode.lean ====
section
/-! DEFINITION. Decoding (30_encoding.md R80 to R93, R96) and, after it, encoding. The decoder is
total: every request, event id and status word is an instruction or is refused by name. It makes the
checks of R87 that look at the request alone (items 1 to 3, the pin ids of item 4, item 5); the
meanings make the rest, in R87's order (notes/assumptions/18.md). Which pin ids are pins depends on the
widths of the machine (00_scope.md R7), which the decoder takes as an argument. -/

namespace Sys2Proof

/-! ## Status words -/

/-- PRESUMED, the informative `STATUS_MAP` of 30_encoding.md R93 (93_implementation_defined.md G2;
notes/assumptions/11.md): decided by `t & 0xF8`; a word no row names is `OTHER`. -/
def informativeStatusMap : List StatusRow :=
  [ ⟨0xF8#8, 0x08#8, .start⟩, ⟨0xF8#8, 0x10#8, .repStart⟩, ⟨0xF8#8, 0x18#8, .slaAck⟩,
    ⟨0xF8#8, 0x20#8, .slaNack⟩, ⟨0xF8#8, 0x28#8, .dataAck⟩, ⟨0xF8#8, 0x30#8, .dataNack⟩,
    ⟨0xF8#8, 0x38#8, .arbLost⟩, ⟨0xF8#8, 0x00#8, .busError⟩ ]

/-- The class of a status word under a `STATUS_MAP` (R91, R92): the first row that matches decides,
and a word that no row names is `OTHER`, so the map is total. -/
def classOfStatus : List StatusRow → Byte → StatusClass
  | [], _ => .other
  | row :: rows, t => if t &&& row.mask = row.pattern then row.cls else classOfStatus rows t

/-- The table row of a status class. -/
def instrOfClass : StatusClass → Instr
  | .start => .twiStatusStart
  | .repStart => .twiStatusRepStart
  | .slaAck => .twiStatusSlaAck
  | .dataAck => .twiStatusDataAck
  | .slaNack => .twiStatusSlaNack
  | .dataNack => .twiStatusDataNack
  | .arbLost => .twiStatusArbLost
  | .busError => .twiStatusBusError
  | .other => .twiStatusOther

/-! ## Fields of a request word (R80) -/

/-- `op = w[47:40]` -/
def opField (w : ReqWord) : Byte := w.extractLsb' 40 8

/-- `sel = w[39:32]` -/
def selField (w : ReqWord) : Byte := w.extractLsb' 32 8

/-- `b = w[31:16]` -/
def bField (w : ReqWord) : Half := w.extractLsb' 16 16

/-- `a = w[15:0]` -/
def aField (w : ReqWord) : Half := w.extractLsb' 0 16

/-- The pin id in `sel[4:0]` (R90): port `sel[4:3]`, bit `sel[2:0]`. -/
def pinIdOfSel (sel : Byte) : PinId := ⟨(sel.extractLsb' 3 2).toFin, (sel.extractLsb' 0 3).toFin⟩

/-- The pin a selector names (R90): `sel[7:5] = 0` and the pin exists. -/
def pinOfSel (g : Widths) (sel : Byte) : Option PinId :=
  if sel.extractLsb' 5 3 = 0#3 && g.hasPin (pinIdOfSel sel) then some (pinIdOfSel sel) else none

/-- The mode that `a[1:0]` names (R90); 3 names none. -/
def modeOfCode (c : BitVec 2) : Option PinMode :=
  if c = 0#2 then some .output
  else if c = 1#2 then some .input
  else if c = 2#2 then some .inputPullup
  else none

/-! ## The decoder -/

/-- Go on if the check holds, else refuse with the named reason. -/
def checkThen (ok : Bool) (reason : RefuseReason) (k : Except RefuseReason Instr) :
    Except RefuseReason Instr :=
  if ok then k else .error reason

/-- Items 2 and 3 of R87 for a request other than `TWI_WRITE`: the fields that must be 0 are 0, and
there is no payload. -/
def plainRequest (zeros : Bool) (payload : List Byte) (k : Except RefuseReason Instr) :
    Except RefuseReason Instr :=
  checkThen zeros .reservedField (checkThen payload.isEmpty .badPayload k)

/-- Item 4 of R87 for a request whose selector is a pin id. -/
def withPin (g : Widths) (sel : Byte) (k : PinId → Except RefuseReason Instr) :
    Except RefuseReason Instr :=
  match pinOfSel g sel with
  | none => .error .badSelector
  | some p => k p

/-- Decode a request (R96): opcode, reserved fields, payload, pin id, mode, in R87's order. -/
def decodeRequest (g : Widths) (q : Request) : Except RefuseReason Instr :=
  let sel := selField q.word
  let b := bField q.word
  let a := aField q.word
  let pl := q.payload
  match (opField q.word).toNat with
  | 0x01 => plainRequest (b == 0#16) pl (.ok (.regSetRaw sel a))
  | 0x02 => plainRequest (b == 0#16 && a == 0#16) pl (.ok (.regGet sel))
  | 0x03 => plainRequest (b == 0#16) pl (.ok (.regSetBits sel a))
  | 0x04 => plainRequest (b == 0#16) pl (.ok (.regClearBits sel a))
  | 0x05 => plainRequest (b == 0#16) pl (.ok (.regReadBits sel a))
  | 0x10 =>
    plainRequest (b == 0#16 && a.extractLsb' 2 14 == 0#14) pl (withPin g sel fun p =>
      match modeOfCode (a.extractLsb' 0 2) with
      | none => .error .badMode
      | some mode => .ok (.pinConfigure p mode))
  | 0x11 => plainRequest (b == 0#16 && a == 0#16) pl (withPin g sel fun p => .ok (.pinSetHigh p))
  | 0x12 => plainRequest (b == 0#16 && a == 0#16) pl (withPin g sel fun p => .ok (.pinSetLow p))
  | 0x13 => plainRequest (b == 0#16 && a == 0#16) pl (withPin g sel fun p => .ok (.pinToggle p))
  | 0x14 => plainRequest (b == 0#16 && a == 0#16) pl (withPin g sel fun p => .ok (.pinRead p))
  | 0x20 => plainRequest (sel == 0#8 && b == 0#16 && a == 0#16) pl (.ok .clkInit)
  | 0x21 => plainRequest (sel == 0#8 && b == 0#16 && a == 0#16) pl (.ok .clkNow)
  | 0x22 => plainRequest (sel == 0#8) pl (.ok (.instantElapsed a b))
  | 0x23 => plainRequest (sel == 0#8 && b == 0#16 && a == 0#16) pl (.ok .clkDrop)
  | 0x30 => plainRequest (sel == 0#8 && b == 0#16 && a == 0#16) pl (.ok .twiInit)
  | 0x31 =>
    plainRequest (sel == 0#8 && b == 0#16 && a.extractLsb' 8 8 == 0#8) pl
      (.ok (.twiSetAddress (a.extractLsb' 0 8)))
  | 0x32 =>
    checkThen (sel == 0#8 && b == 0#16) .reservedField
      (checkThen (pl.length == a.toNat) .badPayload (.ok (.twiWrite pl)))
  | 0x33 => plainRequest (sel == 0#8 && b == 0#16 && a == 0#16) pl (.ok .twiDrop)
  | 0x40 => plainRequest (b == 0#16 && a == 0#16) pl (withPin g sel fun p => .ok (.btnNew p))
  | 0x41 => plainRequest (b == 0#16) pl (.ok (.btnUpdate sel a))
  | 0x42 => plainRequest (b == 0#16 && a == 0#16) pl (.ok (.btnWasPressed sel))
  | 0x50 => plainRequest (sel == 0#8 && b == 0#16 && a == 0#16) pl (.ok .csEnter)
  | 0x51 =>
    plainRequest (sel == 0#8 && b == 0#16 && a.extractLsb' 1 15 == 0#15) pl
      (.ok (.csExit (a.getLsbD 0)))
  | 0x52 => plainRequest (sel == 0#8 && b == 0#16 && a == 0#16) pl (.ok .intEnable)
  | 0x53 => plainRequest (sel == 0#8 && b == 0#16 && a == 0#16) pl (.ok .intDisable)
  | _ => .error .illegalOpcode

/-- Decode an event id (R89). -/
def decodeEvent (id : Byte) : Except RefuseReason Instr :=
  if id = 0xF0#8 then .ok .irqTimer
  else if id = 0xF1#8 then .ok .irqTwi
  else .error .illegalOpcode

/-- Decode a status word, by the informative `STATUS_MAP` that spec/opcode_table.json lists. -/
def decodeStatus (t : Byte) : Instr := instrOfClass (classOfStatus informativeStatusMap t)

/-- Decode what reaches the block. -/
def decode (g : Widths) : Encoding → Except RefuseReason Instr
  | .request q => decodeRequest g q
  | .event id => decodeEvent id
  | .status t => .ok (decodeStatus t)

/-- The request that a word and operand bytes of zeros make: a `TWI_WRITE` takes `a` payload bytes
(R96 step 3), every other request none. -/
def requestOfWord (w : ReqWord) : Request :=
  ⟨w, if opField w = 0x32#8 then List.replicate (aField w).toNat 0#8 else []⟩

/-- The instruction of an opcode-table row's bits, on a machine with the source's widths. A row of 48 bits is a request word. A row of 8
bits is an event id where it names an event, and else a status word (notes/assumptions/12.md). -/
def decodeTableWord (nbits w : Nat) : Option Instr :=
  if nbits ≤ 8 then
    match decodeEvent (BitVec.ofNat 8 w) with
    | .ok i => some i
    | .error _ => some (decodeStatus (BitVec.ofNat 8 w))
  else
    match decodeRequest Widths.source (requestOfWord (BitVec.ofNat 48 w)) with
    | .ok i => some i
    | .error _ => none

/-! ## The encoder -/

/-- `op ++ sel ++ b ++ a` (R80). -/
def requestWord (op sel : Byte) (b a : Half) : ReqWord := op ++ sel ++ b ++ a

/-- A request without payload. -/
def plainEncoding (op sel : Byte) (b a : Half) : Encoding := .request ⟨requestWord op sel b a, []⟩

/-- The selector of a pin, `port * 8 + bit` (R90). -/
def selOfPin (p : PinId) : Byte :=
  BitVec.ofNat 3 0 ++ BitVec.ofNat 2 p.port.val ++ BitVec.ofNat 3 p.bit.val

/-- The code of a mode (R90). -/
def codeOfMode : PinMode → Half
  | .output => 0#16
  | .input => 1#16
  | .inputPullup => 2#16

/-- The words of an instruction, from the table of R81; an event by its id (R89), a status class by
one word that the informative map gives it (R93). -/
def encode : Instr → Encoding
  | .regSetRaw r v => plainEncoding 0x01#8 r 0#16 v
  | .regGet r => plainEncoding 0x02#8 r 0#16 0#16
  | .regSetBits r m => plainEncoding 0x03#8 r 0#16 m
  | .regClearBits r m => plainEncoding 0x04#8 r 0#16 m
  | .regReadBits r m => plainEncoding 0x05#8 r 0#16 m
  | .pinConfigure p mode => plainEncoding 0x10#8 (selOfPin p) 0#16 (codeOfMode mode)
  | .pinSetHigh p => plainEncoding 0x11#8 (selOfPin p) 0#16 0#16
  | .pinSetLow p => plainEncoding 0x12#8 (selOfPin p) 0#16 0#16
  | .pinToggle p => plainEncoding 0x13#8 (selOfPin p) 0#16 0#16
  | .pinRead p => plainEncoding 0x14#8 (selOfPin p) 0#16 0#16
  | .clkInit => plainEncoding 0x20#8 0#8 0#16 0#16
  | .clkNow => plainEncoding 0x21#8 0#8 0#16 0#16
  | .instantElapsed now start => plainEncoding 0x22#8 0#8 start now
  | .clkDrop => plainEncoding 0x23#8 0#8 0#16 0#16
  | .twiInit => plainEncoding 0x30#8 0#8 0#16 0#16
  | .twiSetAddress addr => plainEncoding 0x31#8 0#8 0#16 (addr.setWidth 16)
  | .twiWrite payload =>
    .request ⟨requestWord 0x32#8 0#8 0#16 (BitVec.ofNat 16 payload.length), payload⟩
  | .twiDrop => plainEncoding 0x33#8 0#8 0#16 0#16
  | .btnNew p => plainEncoding 0x40#8 (selOfPin p) 0#16 0#16
  | .btnUpdate i now => plainEncoding 0x41#8 i 0#16 now
  | .btnWasPressed i => plainEncoding 0x42#8 i 0#16 0#16
  | .csEnter => plainEncoding 0x50#8 0#8 0#16 0#16
  | .csExit token => plainEncoding 0x51#8 0#8 0#16 (if token then 1#16 else 0#16)
  | .intEnable => plainEncoding 0x52#8 0#8 0#16 0#16
  | .intDisable => plainEncoding 0x53#8 0#8 0#16 0#16
  | .irqTimer => .event 0xF0#8
  | .irqTwi => .event 0xF1#8
  | .twiStatusStart => .status 0x08#8
  | .twiStatusRepStart => .status 0x10#8
  | .twiStatusSlaAck => .status 0x18#8
  | .twiStatusDataAck => .status 0x28#8
  | .twiStatusSlaNack => .status 0x20#8
  | .twiStatusDataNack => .status 0x30#8
  | .twiStatusArbLost => .status 0x38#8
  | .twiStatusBusError => .status 0x00#8
  | .twiStatusOther => .status 0xF8#8

end Sys2Proof
end

