-- ==== Sys2Proof/Machine/Memory.lean ====
section
/-! DEFINITION. The register address space (20_memory.md R60 to R65): the bytes of the registers of
`REG_TABLE`, as a list of (address, byte) pairs in one canonical form, addresses strictly rising and
no entry 0. An address that is not listed reads as 0 (DESIGN CHOICE, notes/assumptions/10.md). -/

namespace Sys2Proof.Machine

/-- The bytes of the register address space. -/
abbrev Memory := List Host.Cell

/-- What an unlisted address reads as. -/
def Memory.blank : Byte := 0#8

/-- The byte at an address. -/
def Memory.byte : List Host.Cell → Nat → Byte
  | [], _ => Memory.blank
  | c :: cs, a => if c.1 = a then c.2 else Memory.byte cs a

/-- Store one byte. Writing what an unlisted address reads as removes the entry. -/
def Memory.store : List Host.Cell → Nat → Byte → List Host.Cell
  | [], a, v => if v = Memory.blank then [] else [(a, v)]
  | c :: cs, a, v =>
    if a < c.1 then (if v = Memory.blank then c :: cs else (a, v) :: c :: cs)
    else if c.1 = a then (if v = Memory.blank then cs else (a, v) :: cs)
    else c :: Memory.store cs a v

/-- The canonical form: addresses strictly rise and no entry is what an unlisted address reads as. -/
def Memory.wf : List Host.Cell → Bool
  | [] => true
  | c :: cs => (c.2 != Memory.blank) && cs.all (fun x => decide (c.1 < x.1)) && Memory.wf cs

/-- `MemRead(addr, n)` (R60): one byte, or two with the low byte at `addr` (R64), widened with
zeros. -/
def Memory.read (m : Memory) (addr : Nat) : RegWidth → Half
  | .w8 => (Memory.byte m addr).setWidth 16
  | .w16 => Memory.byte m (addr + 1) ++ Memory.byte m addr

/-- `MemWrite(addr, n, v)` (R60): one byte, or two with the low byte at `addr` (R64). -/
def Memory.write (m : Memory) (addr : Nat) (w : RegWidth) (v : Half) : Memory :=
  match w with
  | .w8 => Memory.store m addr (v.extractLsb' 0 8)
  | .w16 => Memory.store (Memory.store m addr (v.extractLsb' 0 8)) (addr + 1) (v.extractLsb' 8 8)

/-- The register address space right after reset: every register at `REG_RESET(r) & mask(r)`
(10_state.md R42, R47). The list pairs each descriptor of `REG_TABLE` with its reset value. -/
def Memory.ofReset : List RegDesc → List Half → Memory
  | [], _ => []
  | d :: ds, vs =>
    Memory.write (Memory.ofReset ds vs.tail) d.addr d.width (vs.headD 0#16 &&& d.mask)

end Sys2Proof.Machine
end

