-- ==== Sys2Proof/Machine/TestConfig.lean ====
section
/-! DEFINITION. The configuration `TESTCFG` of 95_test_vectors.md section 0, which the spec fixes for
its test vectors and which `State.reset` carries (notes/assumptions/3.md). -/

namespace Sys2Proof

/-- Register r0 of `TESTCFG`: 8 bits, mask 0x0F, bits 0 to 3 `RW` and `Storage`. -/
def Config.testR0 : RegDesc :=
  { addr := 0x40, width := .w8, mask := 0x000F, owner := .free,
    bits := List.replicate 4 (.declared .rw .storage) ++ List.replicate 4 .undeclared }

/-- Register r1 of `TESTCFG`: bit 0 `RW` `Storage`, bit 1 `WO`, bit 7 `RO` `HwDriven`. -/
def Config.testR1 : RegDesc :=
  { addr := 0x41, width := .w8, mask := 0x0003, owner := .free,
    bits := [.declared .rw .storage, .declared .wo .hwDriven] ++ List.replicate 5 .undeclared ++
      [.declared .ro .hwDriven] }

/-- Register r2 of `TESTCFG`: 16 bits, all `RW` and `Storage`. -/
def Config.testR2 : RegDesc :=
  { addr := 0x42, width := .w16, mask := 0xFFFF, owner := .free,
    bits := List.replicate 16 (.declared .rw .storage) }

/-- Register r3 of `TESTCFG`: 8 bits, all `RW` and `Storage`, owned by the TWI peripheral. -/
def Config.testR3 : RegDesc :=
  { addr := 0xB8, width := .w8, mask := 0x00FF, owner := .twi,
    bits := List.replicate 8 (.declared .rw .storage) }

/-- DESIGN CHOICE (notes/assumptions/3.md): the test configuration `TESTCFG` of 95_test_vectors.md
section 0. The OPEN parameters have no value in the spec; `State.reset` uses these, and no statement
about reset rests on them. -/
def Config.testcfg : Config :=
  { regTable := [testR0, testR1, testR2, testR3]
    regReset := []
    statusMap := informativeStatusMap
    twiSclHz := 100000
    sdaPin := ⟨1, 4⟩
    sclPin := ⟨1, 5⟩
    slaReset := 0#8 }

end Sys2Proof
end

