-- ==== Sys2Proof/Machine/State.lean ====
section
/-! DEFINITION. The state of the block (10_state.md), in the groups of R20, its reset value (R47),
and the reasons for which a step can stop. -/

namespace Sys2Proof.Machine

/-- A response code (30_encoding.md R86). -/
inductive RespCode where
  | ok | alreadyInitialized | invalidAddress | notReady | bufferLenError | sendAddressNack
  | sendDataNack | arbitrationLost | busError
deriving DecidableEq, Repr, Inhabited

/-- A response, `(code, data)` (R86). -/
structure Response where
  code : RespCode
  data : Half
deriving DecidableEq, Repr, Inhabited

/-- `S.fg`, the foreground's phase within a multi-step request (R23). -/
inductive FgPhase where
  | idle
  | rmwWrite (r : Byte) (v : Half)
  | twiWait
deriving DecidableEq, Repr

/-- `S.twi_state` (R30). -/
inductive TwiState where
  | uninitialized | ready | transmitting
deriving DecidableEq, Repr

/-- `S.err`, the last-transaction-error slot (R32). -/
inductive TwiError where
  | none | sendAddressNack | sendDataNack | arbitrationLost | busError
deriving DecidableEq, Repr

/-- `S.p_out`, the last command issued to the peripheral (R34). -/
inductive LastCommand where
  | none | start | send | stop | release | noack
deriving DecidableEq, Repr

/-- `S.p_phase`, the conforming environment's bookkeeping (R34). -/
inductive BusPhase where
  | idle | addr | data
deriving DecidableEq, Repr

/-- A symbol of the bus command trace (R33). -/
inductive BusSymbol where
  | start | byte (b : Byte) | stop | release
deriving DecidableEq, Repr

/-- Core control state (R22 to R25). `refusal` is the model's own: the named reason of the refusal
that ended the run (notes/assumptions/6.md). -/
structure CoreState where
  ie      : Bool
  fg      : FgPhase
  next    : Nat
  refused : Bool
  refusal : Option RefuseReason
deriving DecidableEq, Repr

/-- The Clock and its timer (R26 to R28). -/
structure ClockState where
  flag    : Bool
  tick    : Instant
  timEn   : Bool
  timIe   : Bool
  timPend : Bool
deriving DecidableEq, Repr

/-- The TWI driver record (R29 to R32). -/
structure TwiDriver where
  flag  : Bool
  state : TwiState
  sla   : Byte
  buf   : List Byte
  rd    : Nat
  wr    : Nat
  err   : TwiError
deriving DecidableEq, Repr

/-- The TWI peripheral (R34). -/
structure TwiPeripheral where
  en     : Bool
  ie     : Bool
  ea     : Bool
  int    : Bool
  status : StatusClass
  out    : LastCommand
  phase  : BusPhase
  rate   : Nat
deriving DecidableEq, Repr

/-- One pin: its mode, its output latch, and the level an external circuit applies (R35). -/
structure Pin where
  mode  : PinMode
  latch : Bool
  ext   : ExtLevel
deriving DecidableEq, Repr, Inhabited

/-- One Button (R38). -/
structure Button where
  pin       : PinId
  isPressed : Bool
  last      : Instant
  changed   : Bool
deriving DecidableEq, Repr, Inhabited

/-- The MODEL's own: the program the foreground takes its requests from (R22;
notes/assumptions/5.md), and the responses given so far (notes/assumptions/6.md). -/
structure Caller where
  program   : List Request
  responses : List Response
deriving DecidableEq, Repr

/-- The MODEL's own: the turns placed from outside, the number of turns taken, and the number of
free values drawn (notes/assumptions/1.md, 8.md). -/
structure Oracle where
  schedule : List Turn
  turns    : Nat
  draws    : Nat
deriving DecidableEq, Repr

/-- The state of the block (R20). `cfg` holds the parameters of R7 and R8; no step changes it. `pins`
has an entry for every pin id that a selector can name; the pins of the machine are those that
`cfg.hasPin` holds of, and the other entries keep their reset value (notes/assumptions/15.md). -/
structure State where
  cfg    : Config
  core   : CoreState
  clock  : ClockState
  drv    : TwiDriver
  per    : TwiPeripheral
  trace  : List BusSymbol
  pins   : Vector Pin PinId.count
  btns   : List Button
  mem    : Memory
  caller : Caller
  oracle : Oracle
deriving DecidableEq, Repr

/-- Why the machine stops with a fault. -/
inductive Fault where
  /-- Raised by the step from a state whose run a refusal has ended: no agent takes a further step
  (60_exceptions.md R206, 70_reset_and_hazards.md R250). Safe: the block has no step there. -/
  | runEnded
deriving DecidableEq, Repr

/-- Why the model gives a step no meaning. -/
inductive Refusal where
  /-- Raised by an arm of `exec` whose instruction has no meaning yet; no arm raises it. Safe. -/
  | notModelled (mnemonic : String)
  /-- Raised by the step of a machine whose configuration is not well formed: a model refuses such a
  `REG_TABLE` (10_state.md R41, 20_memory.md R61; notes/assumptions/4.md). Safe: no claim is made
  about such a machine. -/
  | illFormedConfig
deriving DecidableEq, Repr

/-- `S.n_btn` (R37): the Buttons are numbered from 0 in the order of their creation
(notes/assumptions/14.md). -/
def State.nBtn (s : State) : Nat := s.btns.length

/-- The state right after power-on reset of a machine with configuration `c` (R47). What R47 leaves
unspecified has the value that notes/assumptions/9.md names: `S.buf` all 0, `S.p_status` OTHER,
`S.p_rate` 0, `S.ext` Float. -/
def State.resetOf (c : Config) : State where
  cfg := c
  core := { ie := false, fg := .idle, next := 0, refused := false, refusal := none }
  clock := { flag := false, tick := 0#16, timEn := false, timIe := false, timPend := false }
  drv := { flag := false, state := .uninitialized, sla := c.slaReset <<< 1,
           buf := List.replicate c.bufCap 0#8, rd := 0, wr := 0, err := .none }
  per := { en := false, ie := false, ea := false, int := false, status := .other, out := .none,
           phase := .idle, rate := 0 }
  trace := []
  pins := Vector.replicate PinId.count { mode := .input, latch := false, ext := .float }
  btns := []
  mem := Memory.ofReset c.regTable c.regReset
  caller := { program := [], responses := [] }
  oracle := { schedule := [], turns := 0, draws := 0 }

/-- The machine right after reset, with the configuration `TESTCFG` (notes/assumptions/3.md). -/
def State.reset : State := State.resetOf Config.testcfg

end Sys2Proof.Machine
end

