-- ==== Sys2Proof/Machine/Ops.lean ====
section
/-! DEFINITION. The named operations of the block: ending a request, the free values, register and
pin access, the peripheral command primitive, and the taking of an interrupt with the return from it.
Every meaning is written over these. -/

namespace Sys2Proof.Machine

/-- What a step or a meaning answers. -/
abbrev Result := Host.Outcome State Fault Refusal

/-! ## The end of a request (00_scope.md R12) -/

/-- End a request with the response `(code, data)` (30_encoding.md R86); `S.next` advances by one
(10_state.md R22). -/
def State.respond (s : State) (code : RespCode) (data : Half) : State :=
  { s with
    core := { s.core with next := s.core.next + 1 }
    caller := { s.caller with responses := s.caller.responses ++ [⟨code, data⟩] } }

/-- Refuse a request: nothing changes but `S.refused` (60_exceptions.md R202). The reason is
recorded beside it. -/
def State.refuse (s : State) (reason : RefuseReason) : State :=
  { s with core := { s.core with refused := true, refusal := some reason } }

/-- `S.IE <- b` (10_state.md R24). -/
def State.setIe (s : State) (b : Bool) : State := { s with core := { s.core with ie := b } }

/-- `S.fg <- f` (10_state.md R23). -/
def State.setFg (s : State) (f : FgPhase) : State := { s with core := { s.core with fg := f } }

/-! ## Free values (00_scope.md R10; notes/assumptions/8.md) -/

/-- The value of the next `draw()`. -/
def State.drawn (s : State) : Half := Config.draw s.oracle.draws

/-- A `draw()` has been made. -/
def State.afterDraw (s : State) : State :=
  { s with oracle := { s.oracle with draws := s.oracle.draws + 1 } }

/-! ## Registers (40_register_model.md R100, R101) -/

/-- The descriptor a register id names (10_state.md R40). -/
def State.desc (s : State) (r : Byte) : Option RegDesc := s.cfg.regTable[r.toNat]?

/-- `S.reg[r]`, the value last written inside the mask (10_state.md R42), widened with zeros. -/
def State.stored (s : State) (d : RegDesc) : Half := Memory.read s.mem d.addr d.width

/-- The positions of a descriptor that have a given read kind. -/
def kindMask (d : RegDesc) (k : ReadKind) : Half := maskOf fun i => (d.decl i).kind == k

/-- What a read returns (R100), given the stored bits and a drawn word: the stored bit at a
`Storage` position, a draw at a `HwDriven` one, 0 at a `Zero` one. -/
def readValue (d : RegDesc) (stored draw : Half) : Half :=
  if kindMask d .hwDriven = 0#16 then stored &&& kindMask d .storage
  else (stored &&& kindMask d .storage) ||| (draw &&& kindMask d .hwDriven)

/-- `ReadReg(r)` (R100): the value read. -/
def State.readReg (s : State) (d : RegDesc) : Half := readValue d (s.stored d) s.drawn

/-- `WriteReg(r, w)` (R101): the masked write. -/
def State.writeReg (s : State) (d : RegDesc) (w : Half) : State :=
  { s with mem := Memory.write s.mem d.addr d.width (w &&& d.mask) }

/-! ## Pins (41_pin_port.md R120 to R124) -/

/-- The pin `p`. -/
def State.pin (s : State) (p : PinId) : Pin := s.pins[p.index.val]

/-- Put a pin at `p`. -/
def State.setPin (s : State) (p : PinId) (v : Pin) : State :=
  { s with pins := s.pins.set p.index.val v }

/-- The latch of a pin after it is given a mode (R120): 0 for `Input`, 1 for `InputPullup`,
unchanged for `Output`. -/
def latchFor (mode : PinMode) (latch : Bool) : Bool :=
  match mode with
  | .output => latch
  | .input => false
  | .inputPullup => true

/-- `PinConfigure(p, mode)` (R120). -/
def State.pinConfigure (s : State) (p : PinId) (mode : PinMode) : State :=
  s.setPin p { s.pin p with mode := mode, latch := latchFor mode (s.pin p).latch }

/-- `S.latch[p] <- b` (R121 to R123). -/
def State.setLatch (s : State) (p : PinId) (b : Bool) : State :=
  s.setPin p { s.pin p with latch := b }

/-- `PinRead(p)` (R124), given a drawn bit for a floating input without pull-up. -/
def Pin.level (v : Pin) (draw : Half) : Bool :=
  match v.mode, v.ext with
  | .output, _ => v.latch
  | .inputPullup, .low => false
  | .inputPullup, _ => true
  | .input, .low => false
  | .input, .high => true
  | .input, .float => draw.getLsbD 0

/-- `PinRead(p)` (R124): the level read. -/
def State.readPin (s : State) (p : PinId) : Bool := (s.pin p).level s.drawn

/-! ## The peripheral command primitive (43_twi_driver.md R150) -/

/-- The commands of R150. -/
inductive TwiCommand where
  | start | send (b : Byte) | stop | release | noack
deriving DecidableEq, Repr

/-- What a command leaves in `S.p_out`. -/
def commandOut : TwiCommand → LastCommand
  | .start => .start
  | .send _ => .send
  | .stop => .stop
  | .release => .release
  | .noack => .noack

/-- What a command appends to the bus command trace. -/
def commandTrace : TwiCommand → List BusSymbol
  | .start => [.start]
  | .send b => [.byte b]
  | .stop => [.stop]
  | .release => [.release]
  | .noack => []

/-- `S.p_ie` after a command: START sets it, every other command leaves it. -/
def commandIe (c : TwiCommand) (ie : Bool) : Bool :=
  match c with
  | .start => true
  | .send _ => ie
  | .stop => ie
  | .release => ie
  | .noack => ie

/-- `S.p_ea` after a command: START and SEND set it, NOACK clears it. -/
def commandEa (c : TwiCommand) (ea : Bool) : Bool :=
  match c with
  | .start => true
  | .send _ => true
  | .stop => ea
  | .release => ea
  | .noack => false

/-- `TwiCmd(c)` (R150). -/
def State.twiCmd (s : State) (c : TwiCommand) : State :=
  { s with
    per := { s.per with int := false, ie := commandIe c s.per.ie, ea := commandEa c s.per.ea,
                        out := commandOut c }
    trace := s.trace ++ commandTrace c }

/-! ## Taking an interrupt, and the return from it (60_exceptions.md R208 to R210) -/

/-- The two events (30_encoding.md R89). -/
inductive Irq where
  | timer | twi
deriving DecidableEq, Repr

/-- Entry (R208): interrupts are masked, and the timer's pending bit is cleared. Nothing is saved
and the foreground's state is not touched. -/
def State.irqEntry (s : State) (e : Irq) : State :=
  match e with
  | .timer => { s.setIe false with clock := { s.clock with timPend := false } }
  | .twi => s.setIe false

/-- Return (R210): interrupts are enabled again. -/
def State.irqReturn (s : State) : State := s.setIe true

/-- Entry, body and return of event `e`, one atomic step (R208 to R211). -/
def State.takeInterrupt (s : State) (e : Irq) (body : State → State) : State :=
  (body (s.irqEntry e)).irqReturn

end Sys2Proof.Machine
end

