-- ==== Sys2Proof/Machine/Operands.lean ====
section
/-! DEFINITION. Operands: register selectors (40_register_model.md R102), Bit-sets and their
capability algebra (R103), pin ownership (41_pin_port.md R126), the TWI address (43_twi_driver.md
R152), Instants (42_clock.md R137) and the FIFO's contents (10_state.md R32). -/

namespace Sys2Proof.Machine

/-- Resolve a register selector (R102): `BadSelector` if it names no descriptor, `OwnedRegister` if
the descriptor's owner is not `Free`. -/
def State.resolveReg (s : State) (r : Byte) : Except RefuseReason RegDesc :=
  match s.desc r with
  | none => .error .badSelector
  | some d => if d.owner = .free then .ok d else .error .ownedRegister

/-- A capability, the pair `(readable, writable)` (10_state.md R43). -/
structure Capability where
  readable : Bool
  writable : Bool
deriving DecidableEq, Repr

/-- The more restrictive of two capabilities (R103). -/
def Capability.meet (c d : Capability) : Capability :=
  ⟨c.readable && d.readable, c.writable && d.writable⟩

/-- The capability of one position (10_state.md R43). -/
def capAt (d : RegDesc) (i : Nat) : Capability := ⟨(d.decl i).readable, (d.decl i).writable⟩

/-- The members of a Bit-set mask: the positions with a 1 (R103). -/
def members (m : Half) : List Nat := (List.range 16).filter fun i => m.getLsbD i

/-- The combined capability of a Bit-set: the most restrictive of its members' (R103). -/
def combinedCap (d : RegDesc) (m : Half) : Capability :=
  ⟨(members m).all fun i => (capAt d i).readable, (members m).all fun i => (capAt d i).writable⟩

/-- A Bit-set is well formed (R103): not empty, every member below the width and declared. -/
def bitSetWf (d : RegDesc) (m : Half) : Bool :=
  (m != 0#16) &&
  (members m).all fun i => decide (i < d.width.bits) && (d.decl i != .undeclared)

/-- What a Bit-set request needs of the combined capability. -/
inductive Access where
  | read | write
deriving DecidableEq, Repr

/-- Does a capability allow an access? -/
def Capability.allows (c : Capability) : Access → Bool
  | .read => c.readable
  | .write => c.writable

/-- The checks of R102 and R103 on a Bit-set request, in the order of 30_encoding.md R87. -/
def State.resolveBits (s : State) (r : Byte) (m : Half) (need : Access) :
    Except RefuseReason RegDesc :=
  match s.resolveReg r with
  | .error e => .error e
  | .ok d =>
    if !bitSetWf d m then .error .badBitSet
    else if !(combinedCap d m).allows need then .error .capability
    else .ok d

/-- A Bit-set as a caller builds it (10_state.md R40; R103): a register and a mask of positions. -/
structure BitSet where
  reg  : Byte
  mask : Half
deriving DecidableEq, Repr

/-- `|` of two Bit-sets (R103): the masks are ORed. An OR across registers is refused `BadBitSet`
before any request is formed. -/
def BitSet.union (x y : BitSet) : Except RefuseReason BitSet :=
  if x.reg = y.reg then .ok ⟨x.reg, x.mask ||| y.mask⟩ else .error .badBitSet

/-- Does the TWI driver own the pin (R126)? -/
def State.ownsPin (s : State) (p : PinId) : Bool :=
  s.drv.flag && (p == s.cfg.sdaPin || p == s.cfg.sclPin)

/-- Does the pin already have a Button (44_button.md R180)? -/
def State.pinHasButton (s : State) (p : PinId) : Bool := s.btns.any fun b => b.pin == p

/-- The address exceeds the range of `ADDR_BITS` bits (43_twi_driver.md R152). -/
def addressTooBig (g : Widths) (addr : Byte) : Bool := decide (2 ^ g.addrBits ≤ addr.toNat)

/-- `(addr << 1)[7:0]` (R152): the byte sent on the bus, write-bit 0 (R158). -/
def shiftedAddress (addr : Byte) : Byte := addr <<< 1

/-- `(x - y) mod 2^TICK_BITS` (00_scope.md R17; 42_clock.md R137). -/
def elapsed (g : Widths) (x y : Instant) : Instant := g.wrap (x - y)

/-- `(tick + 1) mod 2^TICK_BITS` (00_scope.md R17; 42_clock.md R139). -/
def nextTick (g : Widths) (tick : Instant) : Instant := g.wrap (tick + 1#16)

/-- `S.buf[0..len-1]` overwritten by the payload; the rest keeps its stale bytes (43_twi_driver.md
R153). -/
def fillBuf (buf payload : List Byte) : List Byte := payload ++ buf.drop payload.length

/-- One bit as the data of a response, `zext_16` (00_scope.md R9). -/
def bitData (b : Bool) : Half := if b then 1#16 else 0#16

/-- A register value `v` of a request does not fit an 8-bit register (40_register_model.md R104). -/
def valueTooWide (d : RegDesc) (v : Half) : Bool :=
  d.width == .w8 && (v.extractLsb' 8 8 != 0#8)

end Sys2Proof.Machine
end

