-- ==== Sys2Proof/Machine/Flags.lean ====
section
/-! DEFINITION. The conditions that the block's status flags decide (10_state.md R39). The block has
no condition codes; these are the take conditions of the two events (60_exceptions.md R206, R207),
the state of the FIFO (10_state.md R32), the debounce decision (44_button.md R181) and the response
that the error slot stands for (30_encoding.md R97). -/

namespace Sys2Proof.Machine

/-- The take condition of `IRQ_TIMER` (R206). -/
def State.timerReady (s : State) : Bool := s.core.ie && s.clock.timIe && s.clock.timPend

/-- The take condition of `IRQ_TWI` (R206). -/
def State.twiReady (s : State) : Bool := s.core.ie && s.per.ie && s.per.int

/-- The Interrupt unit may take the event now: its take condition holds, and where `IRQ_PRIORITY`
fixes an order (R207) the other event does not go first. -/
def State.mayTake (s : State) : Irq → Bool
  | .timer => s.timerReady && !(s.cfg.irqPriority == .twiFirst && s.twiReady)
  | .twi => s.twiReady && !(s.cfg.irqPriority == .timerFirst && s.timerReady)

/-- The FIFO is not empty (10_state.md R32). -/
def TwiDriver.hasByte (d : TwiDriver) : Bool := decide (d.rd < d.wr)

/-- The response code the error slot stands for (30_encoding.md R97). -/
def codeOfError : TwiError → RespCode
  | .none => .ok
  | .sendAddressNack => .sendAddressNack
  | .sendDataNack => .sendDataNack
  | .arbitrationLost => .arbitrationLost
  | .busError => .busError

/-- The number of a response code (30_encoding.md R86). -/
def RespCode.num : RespCode → Byte
  | .ok => 0x00#8
  | .alreadyInitialized => 0x01#8
  | .invalidAddress => 0x02#8
  | .notReady => 0x03#8
  | .bufferLenError => 0x04#8
  | .sendAddressNack => 0x05#8
  | .sendDataNack => 0x06#8
  | .arbitrationLost => 0x07#8
  | .busError => 0x08#8

/-- The number of a `S.twi_state` (10_state.md R30). -/
def TwiState.num : TwiState → Byte
  | .uninitialized => 0#8
  | .ready => 1#8
  | .transmitting => 2#8

/-- A sampled press is accepted (R181): the Button is released and enough ticks have passed since
the last accepted transition. -/
def Button.acceptsPress (b : Button) (c : Config) (pressed : Bool) (now : Instant) : Bool :=
  !b.isPressed && pressed && decide (c.debounceTicks ≤ (elapsed c.toWidths now b.last).toNat)

/-- A sampled release is accepted, unconditionally (R181). -/
def Button.acceptsRelease (b : Button) (pressed : Bool) : Bool := b.isPressed && !pressed

/-- The record of a Button after an update with a sampled level (R181). The Instant recorded has
`TICK_BITS` bits. -/
def Button.update (b : Button) (c : Config) (pressed : Bool) (now : Instant) : Button :=
  if b.acceptsPress c pressed now then
    { b with isPressed := true, last := c.wrap now, changed := true }
  else if b.acceptsRelease pressed then
    { b with isPressed := false, last := c.wrap now, changed := true }
  else { b with changed := false }

end Sys2Proof.Machine
end

