-- ==== Sys2Proof/Machine/ButtonUnit.lean ====
section
/-! DEFINITION. The Debounced Button requests (44_button.md R180 to R182). -/

namespace Sys2Proof.Machine

/-- A Button as `BTN_NEW` creates it (10_state.md R38). -/
def newButton (c : Config) (p : PinId) : Button :=
  { pin := p, isPressed := false, last := c.btnLastReset, changed := false }

/-- `BTN_NEW p` (R180). -/
def execBtnNew (p : PinId) (s : State) : Result :=
  if s.cfg.maxButtons ≤ s.nBtn then .next (s.refuse .badSelector)
  else if s.pinHasButton p then .next (s.refuse .badSelector)
  else if s.ownsPin p then .next (s.refuse .ownedPin)
  else
    let configured := s.pinConfigure p .inputPullup
    .next (State.respond { configured with btns := s.btns ++ [newButton s.cfg p] } .ok
      (BitVec.ofNat 16 s.nBtn))

/-- `BTN_UPDATE i, now` (R181); low is pressed. -/
def execBtnUpdate (i : Byte) (now : Instant) (s : State) : Result :=
  match s.btns[i.toNat]? with
  | none => .next (s.refuse .badSelector)
  | some b =>
    let b' := b.update s.cfg (!s.readPin b.pin) now
    .next (State.respond { s.afterDraw with btns := s.btns.set i.toNat b' } .ok (bitData b'.changed))

/-- `BTN_WAS_PRESSED i` (R182). -/
def execBtnWasPressed (i : Byte) (s : State) : Result :=
  match s.btns[i.toNat]? with
  | none => .next (s.refuse .badSelector)
  | some b => .next (s.respond .ok (bitData (b.changed && b.isPressed)))

end Sys2Proof.Machine
end

