-- ==== Sys2Proof/Machine/ClockUnit.lean ====
section
/-! DEFINITION. The Monotonic Clock requests and the timer event (42_clock.md R135 to R139). -/

namespace Sys2Proof.Machine

/-- `CLK_INIT` (R135). `S.tick` is not changed. -/
def execClkInit (s : State) : Result :=
  if s.clock.flag then .next (s.respond .alreadyInitialized 0#16)
  else
    .next (State.respond
      { s with clock := { s.clock with flag := true, timEn := true, timIe := true,
                                       timPend := false } } .ok 0#16)

/-- `CLK_NOW` (R136): the bracket of R190 saves `S.IE`, the counter is read inside it, and the saved
value is restored (90_conflicts.md C1). -/
def execClkNow (s : State) : Result :=
  if s.clock.flag then
    let saved := s.core.ie
    let masked := s.setIe false
    let v := masked.clock.tick
    .next ((masked.setIe saved).respond .ok v)
  else .next (s.refuse .noInstance)

/-- `INSTANT_ELAPSED self, start` (R137). -/
def execInstantElapsed (now start : Instant) (s : State) : Result :=
  .next (s.respond .ok (elapsed s.cfg.toWidths now start))

/-- `CLK_DROP` (R138). `S.tim_pend` and `S.tick` are not changed. -/
def execClkDrop (s : State) : Result :=
  if s.clock.flag then
    .next (State.respond
      { s with clock := { s.clock with timEn := false, timIe := false, flag := false } } .ok 0#16)
  else .next (s.refuse .noInstance)

/-- The body of the timer handler (R139). -/
def timerHandler (s : State) : State :=
  { s with clock := { s.clock with tick := nextTick s.cfg.toWidths s.clock.tick } }

/-- `IRQ_TIMER` (60_exceptions.md R206 to R210 with R139): taken if it may be taken now. If not, the
Interrupt unit has no step and nothing changes (notes/assumptions/13.md). -/
def execIrqTimer (s : State) : Result :=
  if s.mayTake .timer then .next (s.takeInterrupt .timer timerHandler) else .next s

end Sys2Proof.Machine
end

