-- ==== Sys2Proof/Machine/InterruptControl.lean ====
section
/-! DEFINITION. Interrupt control and the critical section (45_interrupt_control.md R190 to R193). -/

namespace Sys2Proof.Machine

/-- `CS_ENTER` (R190): the token is the prior `S.IE`. -/
def execCsEnter (s : State) : Result := .next ((s.setIe false).respond .ok (bitData s.core.ie))

/-- `CS_EXIT token` (R191). -/
def execCsExit (token : Bool) (s : State) : Result := .next ((s.setIe token).respond .ok 0#16)

/-- `INT_ENABLE` (R192). -/
def execIntEnable (s : State) : Result := .next ((s.setIe true).respond .ok 0#16)

/-- `INT_DISABLE` (R193). -/
def execIntDisable (s : State) : Result := .next ((s.setIe false).respond .ok 0#16)

end Sys2Proof.Machine
end

