-- ==== Sys2Proof/Machine/PinPort.lean ====
section
/-! DEFINITION. The Pin/Port requests (41_pin_port.md R120 to R126). The decoder has refused a
selector that names no pin and mode 3. -/

namespace Sys2Proof.Machine

/-- The checks R121 to R123 share, in the order of 30_encoding.md R87: the pin's mode is `Output`
(item 11), and the TWI driver does not own the pin (item 12). On success the latch is set. -/
def driveLatch (p : PinId) (b : Bool) (s : State) : State :=
  if (s.pin p).mode ≠ .output then s.refuse .pinMode
  else if s.ownsPin p then s.refuse .ownedPin
  else (s.setLatch p b).respond .ok 0#16

/-- `PIN_CONFIGURE p, mode` (R120). -/
def execPinConfigure (p : PinId) (mode : PinMode) (s : State) : Result :=
  if s.ownsPin p then .next (s.refuse .ownedPin)
  else .next ((s.pinConfigure p mode).respond .ok 0#16)

/-- `PIN_SET_HIGH p` (R121). -/
def execPinSetHigh (p : PinId) (s : State) : Result := .next (driveLatch p true s)

/-- `PIN_SET_LOW p` (R122). -/
def execPinSetLow (p : PinId) (s : State) : Result := .next (driveLatch p false s)

/-- `PIN_TOGGLE p` (R123). -/
def execPinToggle (p : PinId) (s : State) : Result := .next (driveLatch p (!(s.pin p).latch) s)

/-- `PIN_READ p` (R124): admitted in every mode and on the TWI pins. -/
def execPinRead (p : PinId) (s : State) : Result :=
  .next (s.afterDraw.respond .ok (bitData (s.readPin p)))

end Sys2Proof.Machine
end

