-- ==== Sys2Proof/Machine/RegisterModel.lean ====
section
/-! DEFINITION. The Register Model requests (40_register_model.md R104 to R108). -/

namespace Sys2Proof.Machine

/-- `REG_SET_RAW r, v` (R104): the masked raw write. -/
def execRegSetRaw (r : Byte) (v : Half) (s : State) : Result :=
  match s.resolveReg r with
  | .error e => .next (s.refuse e)
  | .ok d =>
    if valueTooWide d v then .next (s.refuse .valueWidth)
    else .next ((s.writeReg d v).respond .ok 0#16)

/-- `REG_GET r` (R105): the raw read. -/
def execRegGet (r : Byte) (s : State) : Result :=
  match s.resolveReg r with
  | .error e => .next (s.refuse e)
  | .ok d => .next (s.afterDraw.respond .ok (s.readReg d))

/-- `REG_SET_BITS r, m`, step 1 (R106): read, and hold the value to be written. Step 2 is
`finishRmw`. -/
def execRegSetBits (r : Byte) (m : Half) (s : State) : Result :=
  match s.resolveBits r m .write with
  | .error e => .next (s.refuse e)
  | .ok d => .next (s.afterDraw.setFg (.rmwWrite r (s.readReg d ||| m)))

/-- `REG_CLEAR_BITS r, m`, step 1 (R107): read, and hold the value to be written. Step 2 is
`finishRmw`. -/
def execRegClearBits (r : Byte) (m : Half) (s : State) : Result :=
  match s.resolveBits r m .write with
  | .error e => .next (s.refuse e)
  | .ok d => .next (s.afterDraw.setFg (.rmwWrite r (s.readReg d &&& ~~~m)))

/-- `REG_READ_BITS r, m` (R108): the read of a readable Bit-set. -/
def execRegReadBits (r : Byte) (m : Half) (s : State) : Result :=
  match s.resolveBits r m .read with
  | .error e => .next (s.refuse e)
  | .ok d => .next (s.afterDraw.respond .ok (s.readReg d &&& m))

/-- Step 2 of `REG_SET_BITS` and `REG_CLEAR_BITS` (R106): the masked write of the value held, and
the response. A held id that names no descriptor, which no run reaches, is refused
(notes/assumptions/17.md). -/
def finishRmw (r : Byte) (v : Half) (s : State) : Result :=
  match s.desc r with
  | none => .next (s.refuse .badSelector)
  | some d => .next (((s.writeReg d v).setFg .idle).respond .ok 0#16)

end Sys2Proof.Machine
end

