-- ==== Sys2Proof/Machine/TwiUnit.lean ====
section
/-! DEFINITION. The two-wire driver's requests, its event and the branches of its handler
(43_twi_driver.md R151 to R164). -/

namespace Sys2Proof.Machine

/-! ## Requests -/

/-- `TWI_INIT` (R151). `S.p_ie`, `S.p_int`, `S.sla` and the FIFO are not changed. The pin writes are
the driver's own and are not subject to R126. -/
def execTwiInit (s : State) : Result :=
  if s.drv.flag then .next (s.respond .alreadyInitialized 0#16)
  else
    let withPins := (s.pinConfigure s.cfg.sdaPin .inputPullup).pinConfigure s.cfg.sclPin .inputPullup
    .next (State.respond
      { withPins with
        drv := { withPins.drv with flag := true, state := .ready }
        per := { withPins.per with rate := s.cfg.twiSclHz, en := true, ea := true } } .ok 0#16)

/-- `TWI_SET_ADDRESS addr` (R152). -/
def execTwiSetAddress (addr : Byte) (s : State) : Result :=
  if s.drv.flag then
    if addressTooBig s.cfg.toWidths addr then .next (s.respond .invalidAddress 0#16)
    else .next (State.respond { s with drv := { s.drv with sla := shiftedAddress addr } } .ok 0#16)
  else .next (s.refuse .noInstance)

/-- The issue step of an accepted `TWI_WRITE` (R153): the record is filled and handed to the handler
before the START is commanded (70_reset_and_hazards.md R253). No response yet. -/
def issueWrite (payload : List Byte) (s : State) : State :=
  let filled := { s with drv := { s.drv with buf := fillBuf s.drv.buf payload, rd := 0,
                                             wr := payload.length, err := .none,
                                             state := .transmitting } }
  (filled.twiCmd .start).setFg .twiWait

/-- `TWI_WRITE [bytes]` (R153). The wait and the return are `awaitWrite`. -/
def execTwiWrite (payload : List Byte) (s : State) : Result :=
  if s.drv.flag then
    if s.drv.state ≠ .ready then .next (s.respond .notReady 0#16)
    else if s.cfg.bufCap < payload.length then .next (s.respond .bufferLenError 0#16)
    else .next (issueWrite payload s)
  else .next (s.refuse .noInstance)

/-- The foreground's step with `S.fg = TwiWait`: the return of R155 once the handler has handed the
record back, and until then the hold of R154, in which nothing changes. -/
def awaitWrite (s : State) : Result :=
  if s.drv.state = .ready then
    .next ((s.setFg .idle).respond (codeOfError s.drv.err) 0#16)
  else .next s

/-- `TWI_DROP` (R156). -/
def execTwiDrop (s : State) : Result :=
  if s.drv.flag then
    .next (State.respond
      { s with
        per := { s.per with en := false, ie := false, int := false, out := .none, phase := .idle }
        drv := { s.drv with state := .uninitialized, flag := false } } .ok 0#16)
  else .next (s.refuse .noInstance)

/-! ## The branches of the handler (R158 to R164) -/

/-- Hand the record back: `S.twi_state <- Ready`. -/
def handBack (s : State) : State := { s with drv := { s.drv with state := .ready } }

/-- Record an error, issue a command, hand the record back (R160 to R163). -/
def failWith (e : TwiError) (c : TwiCommand) (s : State) : State :=
  handBack (State.twiCmd { s with drv := { s.drv with err := e } } c)

/-- R158: send the address byte; `S.sla` is already shifted, the write-bit is 0. -/
def sendAddress (s : State) : State := s.twiCmd (.send (s.drv.sla ||| 0#8))

/-- R159: send the next byte of the FIFO, or issue STOP and hand the record back. -/
def sendNextOrStop (s : State) : State :=
  if s.drv.hasByte then
    State.twiCmd { s with drv := { s.drv with rd := s.drv.rd + 1 } }
      (.send (s.drv.buf.getD s.drv.rd 0#8))
  else handBack (s.twiCmd .stop)

/-- Branch `START` (R158). -/
def execTwiStatusStart (s : State) : Result := .next (sendAddress s)

/-- Branch `REP_START` (R158). -/
def execTwiStatusRepStart (s : State) : Result := .next (sendAddress s)

/-- Branch `SLA_ACK` (R159). -/
def execTwiStatusSlaAck (s : State) : Result := .next (sendNextOrStop s)

/-- Branch `DATA_ACK` (R159). -/
def execTwiStatusDataAck (s : State) : Result := .next (sendNextOrStop s)

/-- Branch `SLA_NACK` (R160). -/
def execTwiStatusSlaNack (s : State) : Result := .next (failWith .sendAddressNack .stop s)

/-- Branch `DATA_NACK` (R161). -/
def execTwiStatusDataNack (s : State) : Result := .next (failWith .sendDataNack .stop s)

/-- Branch `ARB_LOST` (R162): the bus is released without a STOP. -/
def execTwiStatusArbLost (s : State) : Result := .next (failWith .arbitrationLost .release s)

/-- Branch `BUS_ERROR` (R163). -/
def execTwiStatusBusError (s : State) : Result := .next (failWith .busError .stop s)

/-- Branch `OTHER` (R164): withhold acknowledgment; the state is not handed back. -/
def execTwiStatusOther (s : State) : Result := .next (s.twiCmd .noack)

/-! ## The event -/

/-- The state a branch leaves; a branch always answers a next state. -/
def branchState (s : State) : Result → State
  | .next t => t
  | .fault _ => s
  | .refused _ => s

/-- The body of the TWI handler (R157): dispatch on the status class alone. -/
def twiHandler (s : State) : State :=
  branchState s
    (match s.per.status with
      | .start => execTwiStatusStart s
      | .repStart => execTwiStatusRepStart s
      | .slaAck => execTwiStatusSlaAck s
      | .dataAck => execTwiStatusDataAck s
      | .slaNack => execTwiStatusSlaNack s
      | .dataNack => execTwiStatusDataNack s
      | .arbLost => execTwiStatusArbLost s
      | .busError => execTwiStatusBusError s
      | .other => execTwiStatusOther s)

/-- `IRQ_TWI` (60_exceptions.md R206 to R210 with R157): taken if it may be taken now. If not, the
Interrupt unit has no step and nothing changes (notes/assumptions/13.md). -/
def execIrqTwi (s : State) : Result :=
  if s.mayTake .twi then .next (s.takeInterrupt .twi twiHandler) else .next s

end Sys2Proof.Machine
end

