-- ==== Sys2Proof/Machine/Dispatch.lean ====
section
/-! DEFINITION. The meaning of every instruction: one arm for each row of spec/opcode_table.json. -/

namespace Sys2Proof.Machine

def exec (i : Instr) (s : State) : Host.Outcome State Fault Refusal :=
  match i with
  | .regSetRaw r v => Sys2Proof.Machine.execRegSetRaw r v s
  | .regGet r => Sys2Proof.Machine.execRegGet r s
  | .regSetBits r m => Sys2Proof.Machine.execRegSetBits r m s
  | .regClearBits r m => Sys2Proof.Machine.execRegClearBits r m s
  | .regReadBits r m => Sys2Proof.Machine.execRegReadBits r m s
  | .pinConfigure p mode => Sys2Proof.Machine.execPinConfigure p mode s
  | .pinSetHigh p => Sys2Proof.Machine.execPinSetHigh p s
  | .pinSetLow p => Sys2Proof.Machine.execPinSetLow p s
  | .pinToggle p => Sys2Proof.Machine.execPinToggle p s
  | .pinRead p => Sys2Proof.Machine.execPinRead p s
  | .clkInit => Sys2Proof.Machine.execClkInit s
  | .clkNow => Sys2Proof.Machine.execClkNow s
  | .instantElapsed now start => Sys2Proof.Machine.execInstantElapsed now start s
  | .clkDrop => Sys2Proof.Machine.execClkDrop s
  | .twiInit => Sys2Proof.Machine.execTwiInit s
  | .twiSetAddress addr => Sys2Proof.Machine.execTwiSetAddress addr s
  | .twiWrite payload => Sys2Proof.Machine.execTwiWrite payload s
  | .twiDrop => Sys2Proof.Machine.execTwiDrop s
  | .btnNew p => Sys2Proof.Machine.execBtnNew p s
  | .btnUpdate k now => Sys2Proof.Machine.execBtnUpdate k now s
  | .btnWasPressed k => Sys2Proof.Machine.execBtnWasPressed k s
  | .csEnter => Sys2Proof.Machine.execCsEnter s
  | .csExit token => Sys2Proof.Machine.execCsExit token s
  | .intEnable => Sys2Proof.Machine.execIntEnable s
  | .intDisable => Sys2Proof.Machine.execIntDisable s
  | .irqTimer => Sys2Proof.Machine.execIrqTimer s
  | .irqTwi => Sys2Proof.Machine.execIrqTwi s
  | .twiStatusStart => Sys2Proof.Machine.execTwiStatusStart s
  | .twiStatusRepStart => Sys2Proof.Machine.execTwiStatusRepStart s
  | .twiStatusSlaAck => Sys2Proof.Machine.execTwiStatusSlaAck s
  | .twiStatusDataAck => Sys2Proof.Machine.execTwiStatusDataAck s
  | .twiStatusSlaNack => Sys2Proof.Machine.execTwiStatusSlaNack s
  | .twiStatusDataNack => Sys2Proof.Machine.execTwiStatusDataNack s
  | .twiStatusArbLost => Sys2Proof.Machine.execTwiStatusArbLost s
  | .twiStatusBusError => Sys2Proof.Machine.execTwiStatusBusError s
  | .twiStatusOther => Sys2Proof.Machine.execTwiStatusOther s

end Sys2Proof.Machine
end

