-- ==== Sys2Proof/Machine/Environment.lean ====
section
/-! DEFINITION. The environment agents (60_exceptions.md R212 to R215). An agent whose step is not
enabled changes nothing in its turn (notes/assumptions/2.md). -/

namespace Sys2Proof.Machine

/-- The Timer source raises a compare match (R212), enabled when `S.tim_en = 1`; matches coalesce in
the one pending bit (42_clock.md R141). -/
def timerMatch (s : State) : State :=
  if s.clock.timEn then { s with clock := { s.clock with timPend := true } } else s

/-- The TWI environment's step is enabled (R213, R214): the peripheral is on and no report pends. -/
def State.mayReport (s : State) : Bool := s.per.en && !s.per.int

/-- The rows of R214: may a conforming environment report class `c` after the last command `o` in
phase `p`, and if so, which phase follows? -/
def conformingPhase (o : LastCommand) (p : BusPhase) (c : StatusClass) : Option BusPhase :=
  match o, p, c with
  | .start, _, .start => some .addr
  | .start, _, .arbLost => some .idle
  | .start, _, .busError => some .idle
  | .send, .addr, .slaAck => some .data
  | .send, .addr, .slaNack => some .idle
  | .send, .addr, .arbLost => some .idle
  | .send, .addr, .busError => some .idle
  | .send, .data, .dataAck => some .data
  | .send, .data, .dataNack => some .idle
  | .send, .data, .arbLost => some .idle
  | .send, .data, .busError => some .idle
  | .release, _, .other => some .idle
  | .noack, _, .other => some .idle
  | _, _, _ => none

/-- Record a report of class `c`: the status and the pending bit (R213). -/
def State.report (s : State) (c : StatusClass) : State :=
  { s with per := { s.per with status := c, int := true } }

/-- The TWI environment reports status word `t`: any word in the unconstrained form (R213), a word
whose class has a row in the conforming form (R214), which also writes `S.p_phase`. -/
def twiReport (t : Byte) (s : State) : State :=
  let c := classOfStatus s.cfg.statusMap t
  if s.mayReport then
    match s.cfg.twiEnv with
    | .unconstrained => s.report c
    | .conforming =>
      match conformingPhase s.per.out s.per.phase c with
      | none => s
      | some ph => { s.report c with per := { (s.report c).per with phase := ph } }
  else s

/-- The Pin environment puts level `l` on pin `p` (R215), if the machine has that pin. -/
def pinDrive (p : PinId) (l : ExtLevel) (s : State) : State :=
  if s.cfg.hasPin p then s.setPin p { s.pin p with ext := l } else s

end Sys2Proof.Machine
end

