-- ==== Sys2Proof/Machine/Foreground.lean ====
section
/-! DEFINITION. The foreground's step, and whose turn it is (00_scope.md R3; 10_state.md R22, R23;
20_memory.md R71). -/

namespace Sys2Proof.Machine

/-- The request the foreground takes next, if its program holds one (10_state.md R22). -/
def State.request (s : State) : Option Request := s.caller.program[s.core.next]?

/-- Take a request: decode it (30_encoding.md R96) and run its meaning, or refuse it with the reason
the decoder names. -/
def takeRequest (q : Request) (s : State) : Result :=
  match decodeRequest s.cfg.toWidths q with
  | .error e => .next (s.refuse e)
  | .ok i => exec i s

/-- One foreground step (10_state.md R23): take the next request, write back a read-modify-write, or
wait for the handler. After the last request the foreground has no step (70_reset_and_hazards.md
R250). -/
def foreground (s : State) : Result :=
  match s.core.fg with
  | .idle =>
    match s.request with
    | none => .next s
    | some q => takeRequest q s
  | .rmwWrite r v => finishRmw r v s
  | .twiWait => awaitWrite s

/-- Whose turn it is: the first turn placed from outside, or else a free choice
(notes/assumptions/1.md). -/
def State.turn (s : State) : Turn :=
  match s.oracle.schedule with
  | t :: _ => t
  | [] => Config.freeTurn s.oracle.turns

/-- The turn has been chosen. -/
def State.afterTurn (s : State) : State :=
  { s with oracle := { s.oracle with schedule := s.oracle.schedule.tail,
                                     turns := s.oracle.turns + 1 } }

/-- The step of the agent whose turn it is. -/
def runTurn (t : Turn) (s : State) : Result :=
  match t with
  | .foreground => foreground s
  | .takeTimer => exec .irqTimer s
  | .takeTwi => exec .irqTwi s
  | .timerMatch => .next (timerMatch s)
  | .twiReport w => .next (twiReport w s)
  | .pinDrive p l => .next (pinDrive p l s)

/-- A step of the machine: a refused run has none (60_exceptions.md R206), a machine whose
configuration is not well formed is refused (10_state.md R41, 20_memory.md R61), and otherwise some
agent steps. -/
def agentStep (s : State) : Result :=
  if s.core.refused then .fault .runEnded
  else if s.cfg.wf then runTurn s.turn s.afterTurn
  else .refused .illFormedConfig

/-! ## Placing one instruction for the very next step (notes/assumptions/5.md, 12.md) -/

/-- A program with request `q` at position `k`. -/
def placeRequest (program : List Request) (k : Nat) (q : Request) : List Request :=
  program.take k ++ List.replicate (k - program.length) q ++ q :: program.drop (k + 1)

/-- The turn `t` comes next, and the run has not been refused. -/
def State.withTurn (s : State) (t : Turn) : State :=
  { s with
    core := { s.core with refused := false, refusal := none }
    oracle := { s.oracle with schedule := t :: s.oracle.schedule } }

/-- A request stands where the foreground takes its next one, and the foreground's turn comes next,
at the start of a request. -/
def State.withRequest (s : State) (q : Request) : State :=
  let u := (s.withTurn .foreground).setFg .idle
  { u with caller := { u.caller with program := placeRequest u.caller.program u.core.next q } }

/-- `IRQ_TIMER` may be taken, and is taken next. -/
def State.withTimerEvent (s : State) : State :=
  let u := (s.withTurn .takeTimer).setIe true
  { u with
    clock := { u.clock with timIe := true, timPend := true }
    per := { u.per with int := u.per.int && !(u.cfg.irqPriority == .twiFirst) } }

/-- `IRQ_TWI` may be taken, and is taken next. -/
def State.withTwiEvent (s : State) : State :=
  let u := (s.withTurn .takeTwi).setIe true
  { u with
    per := { u.per with ie := true, int := true }
    clock := { u.clock with timPend := u.clock.timPend && !(u.cfg.irqPriority == .timerFirst) } }

/-- The peripheral has reported a status of class `c`, and `IRQ_TWI` is taken next. -/
def State.withStatus (s : State) (c : StatusClass) : State :=
  let u := s.withTwiEvent
  { u with per := { u.per with status := c } }

/-- The instruction of an opcode-table row's bits, placed for the very next step. -/
def State.placeTableWord (s : State) (nbits w : Nat) : State :=
  if nbits ≤ 8 then
    match decodeEvent (BitVec.ofNat 8 w) with
    | .ok .irqTimer => s.withTimerEvent
    | .ok _ => s.withTwiEvent
    | .error _ => s.withStatus (classOfStatus informativeStatusMap (BitVec.ofNat 8 w))
  else s.withRequest (requestOfWord (BitVec.ofNat 48 w))

end Sys2Proof.Machine
end

