-- ==== Sys2Proof/Machine/Step.lean ====
section
/-! DEFINITION. One step of the machine, and the placing of an instruction for the next one. -/

namespace Sys2Proof.Machine

/-- One step of some agent (20_memory.md R71). -/
def step (s : State) : Host.Outcome State Fault Refusal := agentStep s

/-- The state in which the very next step runs the instruction of these bits: a request stands in
the program at `S.next` and the foreground's turn comes; an event's take condition holds and the
Interrupt unit's turn comes; a status word has been reported and `IRQ_TWI` is taken
(notes/assumptions/5.md, 12.md). -/
def State.withFetchWord (s : State) (nbits w : Nat) : State := s.placeTableWord nbits w

end Sys2Proof.Machine
end

