-- ==== Sys2Proof/Safety.lean ====
section
/-! DEFINITION. The terms claims are stated in: the parts of a state and what a step leaves
unchanged, the reset values (10_state.md R47), the invariant of the machine, the moves of the TWI
driver's state (R45), the hang of 70_reset_and_hazards.md R248, the counting of handler runs, a bus
transaction, and the table of 30_encoding.md R81. -/

namespace Sys2Proof.Machine

/-! ## Parts and frames -/

/-- The named parts of the state (10_state.md R20), with the model's own. -/
inductive Part where
  | cfg | ie | fg | next | refused
  | clkFlag | tick | timEn | timIe | timPend
  | twiFlag | twiState | sla | buf | rd | wr | err
  | pEn | pIe | pEa | pInt | pStatus | pOut | pPhase | pRate
  | trace | pins | btns | mem
  | program | responses | schedule | turns | draws
deriving DecidableEq, Repr

/-- Two states agree on a part. Memory agrees when every address reads the same. -/
def Part.agree (p : Part) (s t : State) : Prop :=
  match p with
  | .cfg => t.cfg = s.cfg
  | .ie => t.core.ie = s.core.ie
  | .fg => t.core.fg = s.core.fg
  | .next => t.core.next = s.core.next
  | .refused => t.core.refused = s.core.refused ∧ t.core.refusal = s.core.refusal
  | .clkFlag => t.clock.flag = s.clock.flag
  | .tick => t.clock.tick = s.clock.tick
  | .timEn => t.clock.timEn = s.clock.timEn
  | .timIe => t.clock.timIe = s.clock.timIe
  | .timPend => t.clock.timPend = s.clock.timPend
  | .twiFlag => t.drv.flag = s.drv.flag
  | .twiState => t.drv.state = s.drv.state
  | .sla => t.drv.sla = s.drv.sla
  | .buf => t.drv.buf = s.drv.buf
  | .rd => t.drv.rd = s.drv.rd
  | .wr => t.drv.wr = s.drv.wr
  | .err => t.drv.err = s.drv.err
  | .pEn => t.per.en = s.per.en
  | .pIe => t.per.ie = s.per.ie
  | .pEa => t.per.ea = s.per.ea
  | .pInt => t.per.int = s.per.int
  | .pStatus => t.per.status = s.per.status
  | .pOut => t.per.out = s.per.out
  | .pPhase => t.per.phase = s.per.phase
  | .pRate => t.per.rate = s.per.rate
  | .trace => t.trace = s.trace
  | .pins => ∀ p, t.pin p = s.pin p
  | .btns => t.btns = s.btns
  | .mem => ∀ a, Memory.byte t.mem a = Memory.byte s.mem a
  | .program => t.caller.program = s.caller.program
  | .responses => t.caller.responses = s.caller.responses
  | .schedule => t.oracle.schedule = s.oracle.schedule
  | .turns => t.oracle.turns = s.oracle.turns
  | .draws => t.oracle.draws = s.oracle.draws

/-- Every part but those listed is unchanged. -/
def UnchangedBut (parts : List Part) (s t : State) : Prop := ∀ p, p ∉ parts → p.agree s t

/-- The request ended with the response `(code, data)` (00_scope.md R12, 10_state.md R22). -/
def Responded (s t : State) (code : RespCode) (data : Half) : Prop :=
  t.core.next = s.core.next + 1 ∧ t.caller.responses = s.caller.responses ++ [⟨code, data⟩]

/-- The request was refused with this reason: `S.refused` is set, the reason recorded, and nothing
else changed (60_exceptions.md R202). -/
def RefusedWith (s t : State) (reason : RefuseReason) : Prop :=
  t.core.refused = true ∧ t.core.refusal = some reason ∧ UnchangedBut [.refused] s t

/-! ## Reset -/

/-- The values 10_state.md R47 gives for power-on reset of a machine with configuration `c`. What
R47 leaves unspecified (`S.buf`, `S.p_status`, `S.p_rate`, `S.ext`) is not mentioned. -/
structure ResetValues (c : Config) (s : State) : Prop where
  ie : s.core.ie = false
  fg : s.core.fg = .idle
  next : s.core.next = 0
  refused : s.core.refused = false
  clkFlag : s.clock.flag = false
  tick : s.clock.tick = 0#16
  timers : s.clock.timEn = false ∧ s.clock.timIe = false ∧ s.clock.timPend = false
  twiFlag : s.drv.flag = false
  twiState : s.drv.state = .uninitialized
  sla : s.drv.sla = c.slaReset <<< 1
  cursors : s.drv.rd = 0 ∧ s.drv.wr = 0
  err : s.drv.err = .none
  peripheral : s.per.en = false ∧ s.per.ea = false ∧ s.per.ie = false ∧ s.per.int = false
  command : s.per.out = .none ∧ s.per.phase = .idle
  trace : s.trace = []
  pins : ∀ p, (s.pin p).mode = .input ∧ (s.pin p).latch = false
  nBtn : s.nBtn = 0
  registers : ∀ r d, c.regTable[r]? = some d → s.stored d = c.regReset.getD r 0#16 &&& d.mask

/-! ## The invariant -/

/-- The register id names a descriptor the Register Model may reach (40_register_model.md R102). -/
def Config.namesFree (c : Config) (r : Byte) : Bool :=
  match c.regTable[r.toNat]? with
  | none => false
  | some d => d.owner == .free

/-- What holds in every state a machine with a well-formed configuration can reach. -/
structure State.Inv (s : State) : Prop where
  /-- the configuration is well formed (10_state.md R41, 20_memory.md R61) -/
  cfgWf : s.cfg.wf = true
  /-- memory has its canonical form -/
  memWf : Memory.wf s.mem = true
  /-- `S.buf` has BUF_CAP entries (R32) -/
  bufLength : s.drv.buf.length = s.cfg.bufCap
  /-- `S.rd ≤ S.wr ≤ BUF_CAP` (R32) -/
  cursors : s.drv.rd ≤ s.drv.wr ∧ s.drv.wr ≤ s.cfg.bufCap
  /-- `S.sla[0] = 0` (R31) -/
  slaEven : s.drv.sla.getLsbD 0 = false
  /-- `S.sla` is an address of `ADDR_BITS` bits shifted once (R31) -/
  slaFits : s.drv.sla.toNat < 2 ^ (s.cfg.addrBits + 1)
  /-- the tick and every Instant a Button holds have `TICK_BITS` bits (R27, R38) -/
  instants : s.clock.tick.toNat < 2 ^ s.cfg.tickBits ∧
    ∀ b ∈ s.btns, b.last.toNat < 2 ^ s.cfg.tickBits
  /-- what is no pin of the machine keeps its reset value (R36, R47) -/
  noOtherPins : ∀ p, s.cfg.hasPin p = false → s.pin p = { mode := .input, latch := false, ext := .float }
  /-- an instance exists exactly when the driver's state is not Uninitialized (R29, R30) -/
  flagState : s.drv.flag = true ↔ s.drv.state ≠ .uninitialized
  /-- the peripheral is enabled exactly while an instance exists (R34) -/
  perEn : s.per.en = s.drv.flag
  /-- with no instance the peripheral's interrupt is off and nothing pends (R34, R156) -/
  quiet : s.drv.flag = false → s.per.ie = false ∧ s.per.int = false
  /-- while Transmitting the foreground waits (R46) -/
  waiting : s.drv.state = .transmitting → s.core.fg = .twiWait
  /-- the foreground waits only on a live instance (R154, R156) -/
  waitLive : s.core.fg = .twiWait → s.drv.state ≠ .uninitialized
  /-- the timer runs, and its interrupt is enabled, exactly while a Clock exists (R26, R28) -/
  timer : s.clock.timEn = s.clock.flag ∧ s.clock.timIe = s.clock.flag
  /-- one Button per pin, at most MAX_BUTTONS (R37; 44_button.md R180) -/
  buttons : (s.btns.map Button.pin).Nodup ∧ s.btns.length ≤ s.cfg.maxButtons
  /-- one response for each request taken (R22) -/
  answered : s.caller.responses.length = s.core.next
  /-- a request in progress is one of the program's (R22, R23) -/
  inProgram : s.core.next ≤ s.caller.program.length ∧
    (s.core.fg ≠ .idle → s.core.next < s.caller.program.length)
  /-- a read-modify-write holds a register the Register Model may reach (R23) -/
  rmwHeld : ∀ r v, s.core.fg = .rmwWrite r v → Config.namesFree s.cfg r = true
  /-- `S.reg[r]` has no bit outside the mask (R42; 40_register_model.md R101) -/
  masked : ∀ d ∈ s.cfg.regTable, s.stored d &&& ~~~d.mask = 0#16
  /-- a reason is recorded exactly when the run was refused -/
  reason : s.core.refused = s.core.refusal.isSome

/-! ## Moves, hangs, runs -/

/-- The moves of `S.twi_state` (10_state.md R45), or no change. -/
def TwiState.mayMove : TwiState → TwiState → Bool
  | .uninitialized, .uninitialized => true
  | .uninitialized, .ready => true
  | .uninitialized, .transmitting => false
  | .ready, _ => true
  | .transmitting, .transmitting => true
  | .transmitting, .ready => true
  | .transmitting, .uninitialized => false

/-- A `TWI_WRITE` is in flight with interrupts disabled (70_reset_and_hazards.md R248). -/
def State.hung (s : State) : Prop :=
  s.core.ie = false ∧ s.core.fg = .twiWait ∧ s.drv.state = .transmitting

/-- In this step the Interrupt unit takes `IRQ_TIMER` (60_exceptions.md R206). -/
def State.timerTaken (s : State) : Bool := s.turn == .takeTimer && s.mayTake .timer

/-- The number of timer handler runs among the first `n` steps from `s` (42_clock.md R140). -/
def timerRuns : Nat → State → Nat
  | 0, _ => 0
  | n + 1, s =>
    match step s with
    | .next t => (if s.timerTaken then 1 else 0) + timerRuns n t
    | .fault _ => 0
    | .refused _ => 0

/-- The rows of 60_exceptions.md R214, written out: the classes that a conforming TWI environment may
report after the last command `o` in phase `p`, each with the phase that follows. -/
def conformingRows (o : LastCommand) (p : BusPhase) : List (StatusClass × BusPhase) :=
  match o, p with
  | .start, _ => [(.start, .addr), (.arbLost, .idle), (.busError, .idle)]
  | .send, .addr => [(.slaAck, .data), (.slaNack, .idle), (.arbLost, .idle), (.busError, .idle)]
  | .send, .data => [(.dataAck, .data), (.dataNack, .idle), (.arbLost, .idle), (.busError, .idle)]
  | .send, .idle => []
  | .release, _ => [(.other, .idle)]
  | .noack, _ => [(.other, .idle)]
  | .stop, _ => []
  | .none, _ => []

/-- A report of status word `t`, and then the event taken. -/
def reportAndTake (t : Byte) : List Turn := [.twiReport t, .takeTwi]

/-- The foreground issues a request, the status words are reported one by one, each followed by its
event, and the foreground returns. -/
def transaction (words : List Byte) : List Turn :=
  [.foreground] ++ words.flatMap reportAndTake ++ [.foreground]

/-- The foreground is about to issue `TWI_WRITE payload` with interrupts enabled, on a live driver that is
Ready, with a payload that fits; the status words `words` are reported in its transaction. Nothing is
asked of the environment's form: both R213 and R214 are covered. `IRQ_PRIORITY` is `Free`, so that a
pending timer match cannot turn a placed TWI event away (notes/assumptions/19.md). -/
structure WriteAboutToRun (s : State) (payload words : List Byte) (rest : List Turn) : Prop where
  notRefused : s.core.refused = false
  cfgWf : s.cfg.wf = true
  priority : s.cfg.irqPriority = .free
  fg : s.core.fg = .idle
  ie : s.core.ie = true
  instanceExists : s.drv.flag = true
  ready : s.drv.state = .ready
  peripheral : s.per.en = true
  fits : payload.length ≤ s.cfg.bufCap
  request : ∃ q, s.request = some q ∧ decodeRequest s.cfg.toWidths q = .ok (.twiWrite payload)
  turns : s.oracle.schedule = transaction words ++ rest

/-! ## The encoding's own table (30_encoding.md R81) -/

/-- The opcodes R81 assigns. -/
def assignedOpcodes : List Nat :=
  [0x01, 0x02, 0x03, 0x04, 0x05, 0x10, 0x11, 0x12, 0x13, 0x14, 0x20, 0x21, 0x22, 0x23, 0x30, 0x31,
   0x32, 0x33, 0x40, 0x41, 0x42, 0x50, 0x51, 0x52, 0x53]

/-- The bits of a request word that R81 requires to be 0, for each opcode. -/
def zeroBits : Nat → ReqWord
  | 0x01 => 0x0000FFFF0000#48
  | 0x03 => 0x0000FFFF0000#48
  | 0x04 => 0x0000FFFF0000#48
  | 0x05 => 0x0000FFFF0000#48
  | 0x41 => 0x0000FFFF0000#48
  | 0x02 => 0x0000FFFFFFFF#48
  | 0x11 => 0x0000FFFFFFFF#48
  | 0x12 => 0x0000FFFFFFFF#48
  | 0x13 => 0x0000FFFFFFFF#48
  | 0x14 => 0x0000FFFFFFFF#48
  | 0x40 => 0x0000FFFFFFFF#48
  | 0x42 => 0x0000FFFFFFFF#48
  | 0x10 => 0x0000FFFFFFFC#48
  | 0x22 => 0x00FF00000000#48
  | 0x31 => 0x00FFFFFFFF00#48
  | 0x32 => 0x00FFFFFF0000#48
  | 0x51 => 0x00FFFFFFFFFE#48
  | _ => 0x00FFFFFFFFFF#48

/-- The payload a request must carry: `a` bytes for `TWI_WRITE`, none for any other (R82, R87). -/
def payloadLength (w : ReqWord) : Nat := if opField w = 0x32#8 then (aField w).toNat else 0

/-- The opcodes whose selector is a pin id (R81). -/
def pinOpcodes : List Nat := [0x10, 0x11, 0x12, 0x13, 0x14, 0x40]

end Sys2Proof.Machine
end

