-- ==== Sys2Proof/Certificates/Slice0/Obligations.lean ====
section
/-! DEFINITION. The statements for the provers. Each formalises rules of spec/ or, where it says so,
a choice of the model named in the assumption log. `UnchangedBut parts s t` is the frame: every part
of the state but those listed is the same in `t` as in `s`, memory byte by byte. -/

open Sys2Proof Sys2Proof.Machine

/-! ## Encoding -/

/-- Decoding the encoding of a well-formed instruction gives the instruction back, whatever the widths
of the machine. For the status classes it rests on the informative status map
(notes/assumptions/11.md). -/
def Obligations.DecodeOfEncodeIsIdentity : Prop :=
  ∀ (g : Widths) (i : Instr), i.wellFormed g = true → decode g (encode i) = .ok i

/-- A request that decodes is the encoding of its instruction, which is well formed: no bit of a
request is dropped, and each request has one meaning. -/
def Obligations.EncodeOfDecodedRequestIsTheRequest : Prop :=
  ∀ (g : Widths) (q : Request) (i : Instr), decodeRequest g q = .ok i →
    i.wellFormed g = true ∧ encode i = .request q

/-- A few words written out from the table of R81, on a machine with the source's widths, and two
choices of the model: an eight-bit word that names an event of R89 is that event
(notes/assumptions/12.md), and the class of every status word is that of the informative status map of
R93 (notes/assumptions/11.md). A table word carries no payload, so that the payload of its `TWI_WRITE`
is `a` bytes of 0 (notes/assumptions/25.md). -/
def Obligations.WrittenWordsDecodeByTheTable : Prop :=
  decodeTableWord 48 0x0102_0000_BEEF = some (.regSetRaw 0x02#8 0xBEEF#16) ∧
  decodeTableWord 48 0x1014_0000_0002 = some (.pinConfigure ⟨2, 4⟩ .inputPullup) ∧
  decodeTableWord 48 0x2200_FFFD_0003 = some (.instantElapsed 0x0003#16 0xFFFD#16) ∧
  decodeTableWord 48 0x3100_0000_003C = some (.twiSetAddress 0x3C#8) ∧
  decodeTableWord 48 0x3200_0000_0002 = some (.twiWrite [0#8, 0#8]) ∧
  decodeTableWord 48 0x4100_0000_0012 = some (.btnUpdate 0#8 0x0012#16) ∧
  decodeTableWord 48 0x5100_0000_0001 = some (.csExit true) ∧
  decodeTableWord 8 0xF0 = some .irqTimer ∧ decodeTableWord 8 0xF1 = some .irqTwi ∧
  ∀ t : Byte, decodeStatus t =
    match (t &&& 0xF8#8).toNat with
    | 0x08 => .twiStatusStart
    | 0x10 => .twiStatusRepStart
    | 0x18 => .twiStatusSlaAck
    | 0x20 => .twiStatusSlaNack
    | 0x28 => .twiStatusDataAck
    | 0x30 => .twiStatusDataNack
    | 0x38 => .twiStatusArbLost
    | 0x00 => .twiStatusBusError
    | _ => .twiStatusOther

/-- R88, R87 item 1: a request is refused `IllegalOpcode` exactly when R81 does not assign its
opcode. -/
def Obligations.UnassignedOpcodesAreIllegal : Prop :=
  ∀ (g : Widths) (q : Request), decodeRequest g q = .error .illegalOpcode ↔
    (opField q.word).toNat ∉ assignedOpcodes

/-- R85, R87 item 2: a request with an assigned opcode is refused `ReservedField` exactly when a bit
that R81 requires to be 0 is 1. -/
def Obligations.NonzeroReservedFieldIsRefused : Prop :=
  ∀ (g : Widths) (q : Request), (opField q.word).toNat ∈ assignedOpcodes →
    (decodeRequest g q = .error .reservedField ↔
      q.word &&& zeroBits (opField q.word).toNat ≠ 0#48)

/-- R82, R87 item 3: with its opcode assigned and its reserved fields 0, a request is refused
`BadPayload` exactly when its payload does not hold the number of bytes it must. -/
def Obligations.PayloadOfWrongLengthIsRefused : Prop :=
  ∀ (g : Widths) (q : Request), (opField q.word).toNat ∈ assignedOpcodes →
    q.word &&& zeroBits (opField q.word).toNat = 0#48 →
    (decodeRequest g q = .error .badPayload ↔ q.payload.length ≠ payloadLength q.word)

/-- R90, R125, R87 items 4 and 5: a pin request that passes the earlier checks is refused
`BadSelector` exactly when `sel[7:5]` is not 0, the port is not below `N_PORTS` or the bit not below
`PORT_PINS` (with the source's widths: from selector 24 on), and else it is refused `BadMode` exactly
when it is `PIN_CONFIGURE` with mode 3. That `PORT_PINS` below the field's 8 bounds the bit is inferred
from R7 and R36 (notes/assumptions/15.md). -/
def Obligations.PinSelectorAndModeAreChecked : Prop :=
  ∀ (g : Widths) (q : Request), (opField q.word).toNat ∈ pinOpcodes →
    q.word &&& zeroBits (opField q.word).toNat = 0#48 → q.payload = [] →
    (decodeRequest g q = .error .badSelector ↔
      32 ≤ (selField q.word).toNat ∨ g.nPorts ≤ (selField q.word).toNat / 8 ∨
        g.portPins ≤ (selField q.word).toNat % 8) ∧
    (g = Widths.source →
      (decodeRequest g q = .error .badSelector ↔ 24 ≤ (selField q.word).toNat)) ∧
    (decodeRequest g q ≠ .error .badSelector →
      (decodeRequest g q = .error .badMode ↔
        opField q.word = 0x10#8 ∧ aField q.word = 3#16))

/-! ## The step -/

/-- A step runs the decoded instruction: the foreground's next request, or the event taken, is run by
`exec` in the state in which the turn has been chosen (`afterTurn` advances the turns, nothing
else). -/
def Obligations.StepRunsDecodedInstruction : Prop :=
  ∀ s : State, s.core.refused = false → s.cfg.wf = true →
    UnchangedBut [.schedule, .turns] s s.afterTurn ∧
    (∀ q i, s.turn = .foreground → s.core.fg = .idle → s.request = some q →
      decodeRequest s.cfg.toWidths q = .ok i → step s = exec i s.afterTurn) ∧
    (s.turn = .takeTimer → step s = exec .irqTimer s.afterTurn) ∧
    (s.turn = .takeTwi → step s = exec .irqTwi s.afterTurn)

/-- An instruction placed from its opcode-table bits is run by the very next step: a request and an
event by `exec`, a status class as the body of the TWI event, between its entry and its return. The
machine has the source's widths, for which the table's words are decoded. The placing is the model's
(notes/assumptions/5.md, 12.md, 25.md). -/
def Obligations.PlacedInstructionRunsNext : Prop :=
  ∀ (s : State) (nbits w : Nat) (i : Instr), s.cfg.wf = true →
    s.cfg.toWidths = Widths.source → decodeTableWord nbits w = some i →
    let u := s.withFetchWord nbits w
    (8 < nbits → step u = exec i u.afterTurn) ∧
    (nbits ≤ 8 → i = .irqTimer → u.mayTake .timer = true ∧ step u = exec i u.afterTurn) ∧
    (nbits ≤ 8 → i = .irqTwi → u.mayTake .twi = true ∧ step u = exec i u.afterTurn) ∧
    (nbits ≤ 8 → i ≠ .irqTimer → i ≠ .irqTwi →
      ∃ v, exec i (u.afterTurn.irqEntry .twi) = .next v ∧ step u = .next v.irqReturn)

/-- R96, R202, R250: a request that does not decode is refused with the reason the decoder names, and
no agent steps after that. That the step after a refusal answers the fault `runEnded` is the model's
choice (notes/assumptions/7.md). -/
def Obligations.UndecodableRequestEndsTheRun : Prop :=
  ∀ (s : State) (q : Request) (e : RefuseReason), s.core.refused = false → s.cfg.wf = true →
    s.turn = .foreground → s.core.fg = .idle → s.request = some q →
    decodeRequest s.cfg.toWidths q = .error e →
    ∃ t, step s = .next t ∧ RefusedWith s.afterTurn t e ∧ step t = .fault .runEnded

/-- R202: whatever instruction is refused, the refusal changes nothing but `S.refused`, with the
reason recorded. -/
def Obligations.RefusalChangesNothingElse : Prop :=
  ∀ (i : Instr) (s t : State), s.core.refused = false → exec i s = .next t →
    t.core.refused = true → ∃ e, RefusedWith s t e

/-- R200: no request traps. Every instruction answers a next state in every state, and so does every
step of a machine whose configuration is well formed and whose run no refusal has ended; that an agent
without an enabled step takes one that changes nothing is the model's choice (notes/assumptions/2.md). -/
def Obligations.NothingTraps : Prop :=
  (∀ (i : Instr) (s : State), ∃ t, exec i s = .next t) ∧
  (∀ s : State, s.core.refused = false → s.cfg.wf = true → ∃ t, step s = .next t)

/-! ## Reset and the invariant -/

/-- R47: power-on reset leaves every field that R47 gives a value at that value, for every
well-formed configuration. -/
def Obligations.ResetLeavesTheListedValues : Prop :=
  ∀ c : Config, c.wf = true → ResetValues c (State.resetOf c)

/-- The invariant holds right after reset, for every well-formed configuration. -/
def Obligations.ResetMeetsTheMachineInvariant : Prop :=
  ∀ c : Config, c.wf = true → (State.resetOf c).Inv

/-- Every step of every agent keeps the invariant: the memory's canonical form, the FIFO's cursors,
`S.sla[0] = 0` and its range, the range of every Instant, the link of the instance flag with the
driver's state and the peripheral, the foreground waiting while Transmitting, one Button per pin, one
response per request, register bits inside their masks. The two ranges, and that an entry of the state
that is no pin keeps its reset value, are stated for the machine's own widths
(notes/assumptions/15.md). -/
def Obligations.EveryStepKeepsTheMachineInvariant : Prop :=
  ∀ s t : State, s.Inv → step s = .next t → t.Inv

/-- R45: `S.twi_state` changes only Uninitialized to Ready, Ready to Transmitting, Transmitting to
Ready, and Ready to Uninitialized (`TWI_DROP`). -/
def Obligations.TwiStateMovesOnlyAsListed : Prop :=
  ∀ s t : State, s.Inv → step s = .next t → TwiState.mayMove s.drv.state t.drv.state = true

/-- R33, R22, R8: a step never changes the configuration or the program, only appends to the bus
command trace and to the responses, and advances `S.next` by one exactly when it appends a
response. -/
def Obligations.HistoryOnlyGrows : Prop :=
  ∀ s t : State, step s = .next t →
    t.cfg = s.cfg ∧ t.caller.program = s.caller.program ∧
    (∃ l, t.trace = s.trace ++ l) ∧
    ((t.core.next = s.core.next ∧ t.caller.responses = s.caller.responses) ∨
      ∃ r, t.core.next = s.core.next + 1 ∧ t.caller.responses = s.caller.responses ++ [r])

/-- R33, R221: the trace is observation only. A machine with another history on its trace takes the
same step, its trace extended by the same symbols. -/
def Obligations.TraceIsNeverRead : Prop :=
  ∀ (s t : State) (older : List BusSymbol), step s = .next t →
    step { s with trace := older ++ s.trace } = .next { t with trace := older ++ t.trace }

/-! ## The Clock -/

/-- R135: `CLK_INIT` makes the Clock, or answers `AlreadyInitialized` and changes nothing. -/
def Obligations.ClkInitMakesTheClock : Prop :=
  ∀ s : State,
    (s.clock.flag = false → ∃ t, exec .clkInit s = .next t ∧
      t.clock.flag = true ∧ t.clock.timEn = true ∧ t.clock.timIe = true ∧
      t.clock.timPend = false ∧ Responded s t .ok 0#16 ∧
      UnchangedBut [.clkFlag, .timEn, .timIe, .timPend, .next, .responses] s t) ∧
    (s.clock.flag = true → ∃ t, exec .clkInit s = .next t ∧
      Responded s t .alreadyInitialized 0#16 ∧ UnchangedBut [.next, .responses] s t)

/-- R136: `CLK_NOW` answers the tick and leaves `S.IE` as it was. -/
def Obligations.ClkNowAnswersTheTick : Prop :=
  ∀ s : State, s.clock.flag = true → ∃ t, exec .clkNow s = .next t ∧
    Responded s t .ok s.clock.tick ∧ UnchangedBut [.next, .responses] s t

/-- R137, R7: `INSTANT_ELAPSED self, start` answers `(self - start) mod 2^TICK_BITS`, of the 16-bit
difference, and touches no state. With the source's 16 bits this is R137's `2^16`; for other widths it
is inferred from R7 (notes/assumptions/15.md). -/
def Obligations.InstantElapsedSubtractsModulo : Prop :=
  ∀ (now start : Instant) (s : State), ∃ t x, exec (.instantElapsed now start) s = .next t ∧
    Responded s t .ok x ∧ x.toNat = (now.toNat + (65536 - start.toNat)) % 65536 % 2 ^ s.cfg.tickBits ∧
    UnchangedBut [.next, .responses] s t

/-- R138: `CLK_DROP` stops the timer and its interrupt and clears the flag; the tick and a pending
match stay. -/
def Obligations.ClkDropStopsTheTimer : Prop :=
  ∀ s : State, s.clock.flag = true → ∃ t, exec .clkDrop s = .next t ∧
    t.clock.flag = false ∧ t.clock.timEn = false ∧ t.clock.timIe = false ∧
    Responded s t .ok 0#16 ∧
    UnchangedBut [.clkFlag, .timEn, .timIe, .next, .responses] s t

/-- R139, R7, R206 to R210: a timer event that may be taken adds one to the tick modulo `2^TICK_BITS`,
clears the pending match and leaves `S.IE` at 1. With the source's 16 bits the wrap is R139's `2^16`;
for other widths it is inferred from R7 (notes/assumptions/15.md). That one that may not be taken
changes nothing is inferred (notes/assumptions/13.md), and under a fixed `IRQ_PRIORITY` when it may be
taken is the model's reading (notes/assumptions/19.md). -/
def Obligations.TimerEventAddsOneTick : Prop :=
  ∀ s : State,
    (s.mayTake .timer = true → ∃ t, exec .irqTimer s = .next t ∧
      t.clock.tick.toNat = (s.clock.tick.toNat + 1) % 65536 % 2 ^ s.cfg.tickBits ∧ t.clock.timPend = false ∧
      t.core.ie = true ∧ s.core.ie = true ∧ UnchangedBut [.tick, .timPend] s t) ∧
    (s.mayTake .timer = false → exec .irqTimer s = .next s)

/-- R140: for two readings of the Clock in one run with `k` timer handler runs between them,
`INSTANT_ELAPSED` answers `k mod 2^TICK_BITS`. With the source's 16 bits this is R140's `k mod 65536`;
for other widths it is inferred from R7 (notes/assumptions/15.md), with R136, R137 and R139 read
accordingly. -/
def Obligations.ElapsedTicksCountHandlerRuns : Prop :=
  ∀ (s t u v w : State) (n : Nat) (x y : Half),
    exec .clkNow s = .next t → Responded s t .ok x →
    Host.Core.run Sys2Proof.core n t = .next u →
    exec .clkNow u = .next v → Responded u v .ok y → w.cfg = s.cfg →
    ∃ z, exec (.instantElapsed y x) w = .next z ∧
      Responded w z .ok (BitVec.ofNat 16 (timerRuns n t % 2 ^ s.cfg.tickBits))

/-! ## The two-wire driver -/

/-- R151: `TWI_INIT` makes the driver: rate, pull-ups on the two bus lines, peripheral and
acknowledge enabled, Ready. A second one answers `AlreadyInitialized` and changes nothing. -/
def Obligations.TwiInitMakesTheDriver : Prop :=
  ∀ s : State,
    (s.drv.flag = false → ∃ t, exec .twiInit s = .next t ∧
      t.drv.flag = true ∧ t.drv.state = .ready ∧ t.per.rate = s.cfg.twiSclHz ∧
      t.per.en = true ∧ t.per.ea = true ∧
      (∀ p, p = s.cfg.sdaPin ∨ p = s.cfg.sclPin →
        (t.pin p).mode = .inputPullup ∧ (t.pin p).latch = true ∧ (t.pin p).ext = (s.pin p).ext) ∧
      (∀ p, p ≠ s.cfg.sdaPin → p ≠ s.cfg.sclPin → t.pin p = s.pin p) ∧
      Responded s t .ok 0#16 ∧
      UnchangedBut [.twiFlag, .twiState, .pRate, .pEn, .pEa, .pins, .next, .responses] s t) ∧
    (s.drv.flag = true → ∃ t, exec .twiInit s = .next t ∧
      Responded s t .alreadyInitialized 0#16 ∧ UnchangedBut [.next, .responses] s t)

/-- R152, R7: `TWI_SET_ADDRESS` stores the address shifted once, `(addr << 1)[7:0]`; an address that
`ADDR_BITS` bits do not hold answers `InvalidAddress` and changes nothing. With the source's 7 bits
this is R152's bound, above 127; for other widths it is inferred from R7 (notes/assumptions/15.md). -/
def Obligations.TwiSetAddressStoresShifted : Prop :=
  ∀ (s : State) (addr : Byte), s.drv.flag = true →
    (addr.toNat < 2 ^ s.cfg.addrBits → ∃ t, exec (.twiSetAddress addr) s = .next t ∧
      t.drv.sla.toNat = 2 * addr.toNat % 256 ∧ Responded s t .ok 0#16 ∧
      UnchangedBut [.sla, .next, .responses] s t) ∧
    (2 ^ s.cfg.addrBits ≤ addr.toNat → ∃ t, exec (.twiSetAddress addr) s = .next t ∧
      Responded s t .invalidAddress 0#16 ∧ UnchangedBut [.next, .responses] s t)

/-- R153: an accepted `TWI_WRITE` copies the payload to the front of the FIFO, clears the error slot,
hands the record to the handler, commands START with the interrupt enabled, and waits: no response
yet. Entries past the payload keep their bytes. -/
def Obligations.AcceptedWriteIssuesStart : Prop :=
  ∀ (s : State) (payload : List Byte), s.drv.flag = true → s.drv.state = .ready →
    payload.length ≤ s.cfg.bufCap → ∃ t, exec (.twiWrite payload) s = .next t ∧
      (∀ k, k < payload.length → t.drv.buf[k]? = payload[k]?) ∧
      (∀ k, payload.length ≤ k → t.drv.buf[k]? = s.drv.buf[k]?) ∧
      t.drv.rd = 0 ∧ t.drv.wr = payload.length ∧ t.drv.err = .none ∧
      t.drv.state = .transmitting ∧ t.per.int = false ∧ t.per.ie = true ∧ t.per.ea = true ∧
      t.per.out = .start ∧ t.trace = s.trace ++ [.start] ∧ t.core.fg = .twiWait ∧
      UnchangedBut [.buf, .rd, .wr, .err, .twiState, .pInt, .pIe, .pEa, .pOut, .trace, .fg] s t

/-- R153: a `TWI_WRITE` on a driver that is not Ready answers `NotReady`, and one longer than the
FIFO answers `BufferLenError`, in that order; neither has any other effect. -/
def Obligations.WritePreflightChecksHaveNoEffect : Prop :=
  ∀ (s : State) (payload : List Byte), s.drv.flag = true →
    (s.drv.state ≠ .ready → ∃ t, exec (.twiWrite payload) s = .next t ∧
      Responded s t .notReady 0#16 ∧ UnchangedBut [.next, .responses] s t) ∧
    (s.drv.state = .ready → s.cfg.bufCap < payload.length →
      ∃ t, exec (.twiWrite payload) s = .next t ∧
        Responded s t .bufferLenError 0#16 ∧ UnchangedBut [.next, .responses] s t)

/-- R154, R155: a waiting foreground holds while the handler owns the record, and returns the error
slot as its response once the record is handed back. That a hold is a step that changes nothing is the
model's choice (notes/assumptions/2.md). -/
def Obligations.WaitingWriteHoldsAndReturns : Prop :=
  ∀ s : State, s.core.fg = .twiWait →
    (s.drv.state = .transmitting → foreground s = .next s) ∧
    (s.drv.state = .ready → ∃ t, foreground s = .next t ∧ t.core.fg = .idle ∧
      Responded s t (codeOfError s.drv.err) 0#16 ∧
      UnchangedBut [.fg, .next, .responses] s t)

/-- R156: `TWI_DROP` disables the peripheral and its interrupt, clears what pends, and releases the
instance; the address, the FIFO, the error slot, the pins and the trace stay. -/
def Obligations.TwiDropReleasesTheDriver : Prop :=
  ∀ s : State, s.drv.flag = true → ∃ t, exec .twiDrop s = .next t ∧
    t.per.en = false ∧ t.per.ie = false ∧ t.per.int = false ∧ t.per.out = .none ∧
    t.per.phase = .idle ∧ t.drv.state = .uninitialized ∧ t.drv.flag = false ∧
    Responded s t .ok 0#16 ∧
    UnchangedBut [.pEn, .pIe, .pInt, .pOut, .pPhase, .twiState, .twiFlag, .next, .responses] s t

/-- R87 item 10: the requests that need an instance are refused `NoInstance` without one. -/
def Obligations.RequestsWithoutInstanceAreRefused : Prop :=
  ∀ (s : State) (addr : Byte) (payload : List Byte),
    (s.clock.flag = false →
      (∃ t, exec .clkNow s = .next t ∧ RefusedWith s t .noInstance) ∧
      (∃ t, exec .clkDrop s = .next t ∧ RefusedWith s t .noInstance)) ∧
    (s.drv.flag = false →
      (∃ t, exec (.twiSetAddress addr) s = .next t ∧ RefusedWith s t .noInstance) ∧
      (∃ t, exec (.twiWrite payload) s = .next t ∧ RefusedWith s t .noInstance) ∧
      (∃ t, exec .twiDrop s = .next t ∧ RefusedWith s t .noInstance))

/-- R158, R164: the branches START and REP_START send the address byte and ask for acknowledgment;
the branch OTHER withholds acknowledgment and appends nothing. None changes the driver record. -/
def Obligations.AddressAndOtherBranches : Prop :=
  ∀ s : State,
    (∀ i, i = .twiStatusStart ∨ i = .twiStatusRepStart → ∃ t, exec i s = .next t ∧
      t.trace = s.trace ++ [.byte s.drv.sla] ∧ t.per.out = .send ∧ t.per.ea = true ∧
      t.per.int = false ∧ UnchangedBut [.trace, .pOut, .pEa, .pInt] s t) ∧
    (∃ t, exec .twiStatusOther s = .next t ∧ t.per.out = .noack ∧ t.per.ea = false ∧
      t.per.int = false ∧ UnchangedBut [.pOut, .pEa, .pInt] s t)

/-- R159: the branches SLA_ACK and DATA_ACK pop the oldest byte and send it, or, with the FIFO empty,
issue STOP and hand the record back. -/
def Obligations.AcknowledgedBranches : Prop :=
  ∀ (s : State) (i : Instr), i = .twiStatusSlaAck ∨ i = .twiStatusDataAck →
    (∀ b, s.drv.rd < s.drv.wr → s.drv.buf[s.drv.rd]? = some b → ∃ t, exec i s = .next t ∧
      t.drv.rd = s.drv.rd + 1 ∧ t.trace = s.trace ++ [.byte b] ∧ t.per.out = .send ∧
      t.per.ea = true ∧ t.per.int = false ∧
      UnchangedBut [.rd, .trace, .pOut, .pEa, .pInt] s t) ∧
    (s.drv.wr ≤ s.drv.rd → ∃ t, exec i s = .next t ∧
      t.drv.state = .ready ∧ t.trace = s.trace ++ [.stop] ∧ t.per.out = .stop ∧
      t.per.int = false ∧ UnchangedBut [.twiState, .trace, .pOut, .pInt] s t)

/-- R160 to R163: a NACK or a bus error records its error, issues STOP and hands the record back;
arbitration loss records its error and releases the bus without STOP. No byte is popped. -/
def Obligations.FailureBranches : Prop :=
  ∀ (s : State) (i : Instr) (e : TwiError) (sym : BusSymbol) (out : LastCommand),
    (i, e, sym, out) ∈
      [(Instr.twiStatusSlaNack, TwiError.sendAddressNack, BusSymbol.stop, LastCommand.stop),
       (.twiStatusDataNack, .sendDataNack, .stop, .stop),
       (.twiStatusArbLost, .arbitrationLost, .release, .release),
       (.twiStatusBusError, .busError, .stop, .stop)] →
    ∃ t, exec i s = .next t ∧ t.drv.err = e ∧ t.drv.state = .ready ∧
      t.trace = s.trace ++ [sym] ∧ t.per.out = out ∧ t.per.int = false ∧
      UnchangedBut [.err, .twiState, .trace, .pOut, .pInt] s t

/-- R157, R206 to R210: a TWI event that may be taken runs the branch of the reported class between
entry and return, clears its own request, leaves `S.IE` at 1, and writes only `S.rd`, `S.err`,
`S.twi_state` and the effects of its one command. That one that may not be taken changes nothing is
inferred (notes/assumptions/13.md), and under a fixed `IRQ_PRIORITY` when it may be taken is the model's
reading (notes/assumptions/19.md). -/
def Obligations.TwiEventRunsTheBranchOfItsClass : Prop :=
  ∀ s : State,
    (s.mayTake .twi = true → ∃ v t, exec (instrOfClass s.per.status) (s.irqEntry .twi) = .next v ∧
      exec .irqTwi s = .next t ∧ t = v.irqReturn ∧ t.per.int = false ∧ t.core.ie = true ∧
      s.core.ie = true ∧ UnchangedBut [.rd, .err, .twiState, .pInt, .pEa, .pOut, .trace] s t) ∧
    (s.mayTake .twi = false → exec .irqTwi s = .next s)

/-- R207, R209: with both events ready and no fixed priority, either may be taken first, the other may
be taken after it, and both orders end in the same state. -/
def Obligations.EventOrderDoesNotMatter : Prop :=
  ∀ s : State, s.cfg.irqPriority = .free → s.timerReady = true → s.twiReady = true →
    s.mayTake .timer = true ∧ s.mayTake .twi = true ∧
    ∃ a b t, exec .irqTimer s = .next a ∧ a.mayTake .twi = true ∧ exec .irqTwi a = .next t ∧
      exec .irqTwi s = .next b ∧ b.mayTake .timer = true ∧ exec .irqTimer b = .next t

/-- R46: while `S.twi_state` is Transmitting only the taking of the TWI event writes the driver
record; while it is not, only the foreground or a stray TWI event does. -/
def Obligations.DriverRecordHasOneWriter : Prop :=
  ∀ s t : State, s.Inv → step s = .next t →
    (s.drv.state = .transmitting → s.turn ≠ .takeTwi → t.drv = s.drv) ∧
    (s.drv.state ≠ .transmitting → s.turn ≠ .foreground → s.turn ≠ .takeTwi → t.drv = s.drv)

/-- R166: a step appends a START to the trace exactly when the foreground begins to wait, one for
each accepted `TWI_WRITE`; nothing is retried. -/
def Obligations.OneStartPerAcceptedWrite : Prop :=
  ∀ s t : State, step s = .next t →
    t.trace.count .start =
      s.trace.count .start + (if s.core.fg ≠ .twiWait ∧ t.core.fg = .twiWait then 1 else 0)

/-- R248: a `TWI_WRITE` in flight with interrupts disabled stays so for ever, whatever the agents do:
no response is ever given and no further request is taken. -/
def Obligations.WriteWithInterruptsOffHangs : Prop :=
  ∀ (n : Nat) (s t : State), s.hung → Host.Core.run Sys2Proof.core n s = .next t →
    t.hung ∧ t.core.next = s.core.next ∧ t.caller.responses = s.caller.responses

/-- R167, R256: a slave that acknowledges the address and every byte. After one issue step, one
report and one handler run for START, for the address and for each of the bytes (`len + 2` runs), and
one return step, the bus has seen START, the address byte, the payload in order and STOP, and the
response is `Ok`. -/
def Obligations.AcknowledgedWriteSendsWholePayload : Prop :=
  ∀ (s : State) (payload words : List Byte) (rest : List Turn),
    WriteAboutToRun s payload words rest →
    words.map (classOfStatus s.cfg.statusMap) =
      [.start, .slaAck] ++ List.replicate payload.length .dataAck →
    ∃ t, Host.Core.run Sys2Proof.core (2 * payload.length + 6) s = .next t ∧
      t.trace = s.trace ++ [.start, .byte s.drv.sla] ++ payload.map .byte ++ [.stop] ∧
      Responded s t .ok 0#16 ∧ t.core.fg = .idle ∧ t.drv.state = .ready ∧ t.drv.err = .none ∧
      t.drv.rd = payload.length ∧ t.drv.wr = payload.length ∧ t.oracle.schedule = rest

/-- R167: after the address and `k` bytes are acknowledged, byte `k + 1` is not acknowledged, or
arbitration is lost, or a bus error is reported. Exactly `k + 1` payload bytes were sent, the bus was
stopped (released, on arbitration loss), and the response names the error. -/
def Obligations.FailedWriteSendsPrefix : Prop :=
  ∀ (s : State) (payload words : List Byte) (rest : List Turn) (k : Nat) (c : StatusClass)
    (e : RespCode) (sym : BusSymbol),
    WriteAboutToRun s payload words rest → k < payload.length →
    (c, e, sym) ∈ [(StatusClass.dataNack, RespCode.sendDataNack, BusSymbol.stop),
      (.arbLost, .arbitrationLost, .release), (.busError, .busError, .stop)] →
    words.map (classOfStatus s.cfg.statusMap) =
      [.start, .slaAck] ++ List.replicate k .dataAck ++ [c] →
    ∃ t, Host.Core.run Sys2Proof.core (2 * k + 8) s = .next t ∧
      t.trace = s.trace ++ [.start, .byte s.drv.sla] ++ (payload.take (k + 1)).map .byte ++ [sym] ∧
      Responded s t e 0#16 ∧ t.core.fg = .idle ∧ t.drv.state = .ready ∧ t.oracle.schedule = rest

/-- R167: the address is not acknowledged, or arbitration is lost or a bus error reported before the
first payload byte. No payload byte was sent, and the response names the error. -/
def Obligations.WriteFailingBeforeDataSendsNoByte : Prop :=
  ∀ (s : State) (payload words : List Byte) (rest : List Turn) (c : StatusClass) (e : RespCode)
    (sym : BusSymbol),
    WriteAboutToRun s payload words rest →
    (c, e, sym) ∈ [(StatusClass.slaNack, RespCode.sendAddressNack, BusSymbol.stop),
      (.arbLost, .arbitrationLost, .release), (.busError, .busError, .stop)] →
    (words.map (classOfStatus s.cfg.statusMap) = [.start, c] →
      ∃ t, Host.Core.run Sys2Proof.core 6 s = .next t ∧
        t.trace = s.trace ++ [.start, .byte s.drv.sla, sym] ∧ Responded s t e 0#16 ∧
        t.core.fg = .idle ∧ t.drv.state = .ready ∧ t.drv.rd = 0) ∧
    (c ≠ .slaNack → words.map (classOfStatus s.cfg.statusMap) = [c] →
      ∃ t, Host.Core.run Sys2Proof.core 4 s = .next t ∧
        t.trace = s.trace ++ [.start, sym] ∧ Responded s t e 0#16 ∧
        t.core.fg = .idle ∧ t.drv.state = .ready ∧ t.drv.rd = 0)

/-! ## The Register Model -/

/-- R104, R101: `REG_SET_RAW` stores the value under the mask and leaves every byte outside the
register alone. -/
def Obligations.RegSetRawWritesUnderTheMask : Prop :=
  ∀ (s : State) (r : Byte) (v : Half) (d : RegDesc), s.desc r = some d → d.owner = .free →
    valueTooWide d v = false → Memory.wf s.mem = true → d.wf = true →
    ∃ t, exec (.regSetRaw r v) s = .next t ∧ t.stored d = v &&& d.mask ∧
      (∀ a, a < d.addr ∨ d.addr + d.width.bytes ≤ a →
        Memory.byte t.mem a = Memory.byte s.mem a) ∧
      Responded s t .ok 0#16 ∧ UnchangedBut [.mem, .next, .responses] s t

/-- R105, R108, R100: `REG_GET` and `REG_READ_BITS` answer, bit by bit, the stored bit, a free value
or 0, by the bit's read kind; `REG_READ_BITS` only at the members of its Bit-set. The free value is
whatever `draw()` is (notes/assumptions/8.md). -/
def Obligations.RegisterReadsAnswerByReadKind : Prop :=
  ∀ (s : State) (r : Byte) (m : Half) (d : RegDesc), s.desc r = some d → d.owner = .free →
    (∃ t x, exec (.regGet r) s = .next t ∧ Responded s t .ok x ∧
      (∀ i, i < 16 → x.getLsbD i =
        match (d.decl i).kind with
        | .storage => (s.stored d).getLsbD i
        | .hwDriven => s.drawn.getLsbD i
        | .zero => false) ∧
      UnchangedBut [.next, .responses, .draws] s t) ∧
    (bitSetWf d m = true → (combinedCap d m).readable = true →
      ∃ t x, exec (.regReadBits r m) s = .next t ∧ Responded s t .ok x ∧
        (∀ i, i < 16 → x.getLsbD i = (m.getLsbD i &&
          match (d.decl i).kind with
          | .storage => (s.stored d).getLsbD i
          | .hwDriven => s.drawn.getLsbD i
          | .zero => false)) ∧
        UnchangedBut [.next, .responses, .draws] s t)

/-- R106, R107, step 1: `REG_SET_BITS` and `REG_CLEAR_BITS` read the register and hold the value with
the members of the Bit-set set, or cleared; nothing is written yet. -/
def Obligations.ReadModifyWriteHoldsTheNewValue : Prop :=
  ∀ (s : State) (r : Byte) (m : Half) (d : RegDesc), s.desc r = some d → d.owner = .free →
    bitSetWf d m = true → (combinedCap d m).writable = true →
    (∃ t v, exec (.regSetBits r m) s = .next t ∧ t.core.fg = .rmwWrite r v ∧
      (∀ i, i < 16 → v.getLsbD i = (m.getLsbD i || (readValue d (s.stored d) s.drawn).getLsbD i)) ∧
      UnchangedBut [.fg, .draws] s t) ∧
    (∃ t v, exec (.regClearBits r m) s = .next t ∧ t.core.fg = .rmwWrite r v ∧
      (∀ i, i < 16 →
        v.getLsbD i = (!m.getLsbD i && (readValue d (s.stored d) s.drawn).getLsbD i)) ∧
      UnchangedBut [.fg, .draws] s t)

/-- R106, step 2: the foreground writes the value held under the mask and answers `Ok`. -/
def Obligations.ReadModifyWriteWritesBack : Prop :=
  ∀ (s : State) (r : Byte) (v : Half) (d : RegDesc), s.core.fg = .rmwWrite r v →
    s.desc r = some d → Memory.wf s.mem = true → d.wf = true →
    ∃ t, foreground s = .next t ∧ t.stored d = v &&& d.mask ∧ t.core.fg = .idle ∧
      (∀ a, a < d.addr ∨ d.addr + d.width.bytes ≤ a →
        Memory.byte t.mem a = Memory.byte s.mem a) ∧
      Responded s t .ok 0#16 ∧ UnchangedBut [.mem, .fg, .next, .responses] s t

/-- R87 items 4, 6, 7, 8 and 9, R102, R103: what a Register Model request is refused for, in order.
Every refused request changes nothing but `S.refused`. -/
def Obligations.RegisterRequestsAreRefusedInOrder : Prop :=
  ∀ (s : State) (r : Byte) (m : Half),
    (s.desc r = none →
      ∀ i ∈ [Instr.regSetRaw r m, .regGet r, .regSetBits r m, .regClearBits r m, .regReadBits r m],
        ∃ t, exec i s = .next t ∧ RefusedWith s t .badSelector) ∧
    (∀ d, s.desc r = some d →
      (d.owner ≠ .free →
        ∀ i ∈ [Instr.regSetRaw r m, .regGet r, .regSetBits r m, .regClearBits r m,
            .regReadBits r m],
          ∃ t, exec i s = .next t ∧ RefusedWith s t .ownedRegister) ∧
      (d.owner = .free → d.width = .w8 → 256 ≤ m.toNat →
        ∃ t, exec (.regSetRaw r m) s = .next t ∧ RefusedWith s t .valueWidth) ∧
      (d.owner = .free →
        (m = 0#16 ∨ ∃ i, m.getLsbD i = true ∧ (d.width.bits ≤ i ∨ d.decl i = .undeclared)) →
        ∀ i ∈ [Instr.regSetBits r m, .regClearBits r m, .regReadBits r m],
          ∃ t, exec i s = .next t ∧ RefusedWith s t .badBitSet) ∧
      (d.owner = .free → bitSetWf d m = true →
        ((∃ i, m.getLsbD i = true ∧ (d.decl i).writable = false) →
          (∃ t, exec (.regSetBits r m) s = .next t ∧ RefusedWith s t .capability) ∧
          (∃ t, exec (.regClearBits r m) s = .next t ∧ RefusedWith s t .capability)) ∧
        ((∃ i, m.getLsbD i = true ∧ (d.decl i).readable = false) →
          ∃ t, exec (.regReadBits r m) s = .next t ∧ RefusedWith s t .capability)))

/-- R109: `REG_SET_RAW` followed at once by `REG_GET` yields the stored bits of `v & M` and draws at
the `HwDriven` positions; exactly `v & M` when every bit of `M` is `Storage` and every bit outside it
is `Zero`. -/
def Obligations.WriteMaskProperty : Prop :=
  ∀ (s : State) (r : Byte) (v : Half) (d : RegDesc), s.desc r = some d → d.owner = .free →
    valueTooWide d v = false → Memory.wf s.mem = true → d.wf = true →
    ∃ t u x, exec (.regSetRaw r v) s = .next t ∧ exec (.regGet r) t = .next u ∧
      Responded t u .ok x ∧
      (∀ i, i < 16 → x.getLsbD i =
        match (d.decl i).kind with
        | .storage => v.getLsbD i && d.mask.getLsbD i
        | .hwDriven => t.drawn.getLsbD i
        | .zero => false) ∧
      ((∀ i, i < 16 → d.mask.getLsbD i = true → (d.decl i).kind = .storage) →
        (∀ i, i < 16 → d.mask.getLsbD i = false → (d.decl i).kind = .zero) → x = v &&& d.mask)

/-- R103, R43: a Bit-set is well formed exactly when it is not empty and every member is below the
width and declared; it is readable exactly when every member is, and writable exactly when every member
is, by the capability each is declared with. The OR of two Bit-sets has the OR of their masks and the
more restrictive of their capabilities; across registers it is refused `BadBitSet`; a set with a
read-only and a write-only member is neither readable nor writable. -/
def Obligations.CombinedBitSetIsMostRestrictive : Prop :=
  ∀ (d : RegDesc) (x y : BitSet),
    (bitSetWf d x.mask = true ↔ x.mask ≠ 0#16 ∧
      ∀ i, x.mask.getLsbD i = true → i < d.width.bits ∧ d.decl i ≠ .undeclared) ∧
    ((combinedCap d x.mask).readable = true ↔
      ∀ i, x.mask.getLsbD i = true → (d.decl i).readable = true) ∧
    ((combinedCap d x.mask).writable = true ↔
      ∀ i, x.mask.getLsbD i = true → (d.decl i).writable = true) ∧
    (∀ i, (d.decl i).readable = true ↔
      ∃ k, d.decl i = .declared .ro k ∨ d.decl i = .declared .rw k) ∧
    (∀ i, (d.decl i).writable = true ↔
      ∃ k, d.decl i = .declared .wo k ∨ d.decl i = .declared .rw k) ∧
    (x.reg = y.reg → x.union y = .ok ⟨x.reg, x.mask ||| y.mask⟩) ∧
    (x.reg ≠ y.reg → x.union y = .error .badBitSet) ∧
    combinedCap d (x.mask ||| y.mask) = (combinedCap d x.mask).meet (combinedCap d y.mask) ∧
    (∀ i j k l, x.mask.getLsbD i = true → d.decl i = .declared .wo k →
      x.mask.getLsbD j = true → d.decl j = .declared .ro l →
      combinedCap d x.mask = ⟨false, false⟩)

/-! ## Pins -/

/-- R120: `PIN_CONFIGURE` gives the pin its mode, the latch 0 for `Input`, 1 for `InputPullup`, and
leaves it for `Output`; every other pin is unchanged. -/
def Obligations.PinConfigureSetsModeAndLatch : Prop :=
  ∀ (s : State) (p : PinId) (mode : PinMode), s.ownsPin p = false →
    ∃ t, exec (.pinConfigure p mode) s = .next t ∧ (t.pin p).mode = mode ∧
      (mode = .input → (t.pin p).latch = false) ∧
      (mode = .inputPullup → (t.pin p).latch = true) ∧
      (mode = .output → (t.pin p).latch = (s.pin p).latch) ∧
      (t.pin p).ext = (s.pin p).ext ∧ (∀ q, q ≠ p → t.pin q = s.pin q) ∧
      Responded s t .ok 0#16 ∧ UnchangedBut [.pins, .next, .responses] s t

/-- R121 to R123: on an output pin that the driver does not own, the latch is set, cleared or
inverted; the pin's mode and every other pin are unchanged. -/
def Obligations.PinWritesDriveTheLatch : Prop :=
  ∀ (s : State) (p : PinId) (i : Instr) (b : Bool), (s.pin p).mode = .output →
    s.ownsPin p = false →
    (i, b) ∈ [(Instr.pinSetHigh p, true), (.pinSetLow p, false), (.pinToggle p, !(s.pin p).latch)] →
    ∃ t, exec i s = .next t ∧ t.pin p = { s.pin p with latch := b } ∧
      (∀ q, q ≠ p → t.pin q = s.pin q) ∧ Responded s t .ok 0#16 ∧
      UnchangedBut [.pins, .next, .responses] s t

/-- R125, R126, R87 items 11 and 12: a write to a pin that is no output is refused `PinMode`, and
only then does ownership by the TWI driver refuse it `OwnedPin`; so it does `PIN_CONFIGURE`. -/
def Obligations.PinWritesAreRefusedInOrder : Prop :=
  ∀ (s : State) (p : PinId),
    ((s.pin p).mode ≠ .output → ∀ i ∈ [Instr.pinSetHigh p, .pinSetLow p, .pinToggle p],
      ∃ t, exec i s = .next t ∧ RefusedWith s t .pinMode) ∧
    (s.drv.flag = true → (p = s.cfg.sdaPin ∨ p = s.cfg.sclPin) →
      ((s.pin p).mode = .output → ∀ i ∈ [Instr.pinSetHigh p, .pinSetLow p, .pinToggle p],
        ∃ t, exec i s = .next t ∧ RefusedWith s t .ownedPin) ∧
      (∀ mode, ∃ t, exec (.pinConfigure p mode) s = .next t ∧ RefusedWith s t .ownedPin))

/-- R124: `PIN_READ` answers the latch of an output, the level of an input, 1 for an undriven pull-up,
and a free value for a floating input, in every mode and whoever owns the pin. That the free value is a
bit of the next drawn word is the model's (notes/assumptions/8.md). -/
def Obligations.PinReadAnswersTheLevel : Prop :=
  ∀ (s : State) (p : PinId), ∃ t b, exec (.pinRead p) s = .next t ∧
    Responded s t .ok (if b then 1#16 else 0#16) ∧
    ((s.pin p).mode = .output → b = (s.pin p).latch) ∧
    ((s.pin p).mode = .inputPullup → (b = false ↔ (s.pin p).ext = .low)) ∧
    ((s.pin p).mode = .input → (s.pin p).ext = .low → b = false) ∧
    ((s.pin p).mode = .input → (s.pin p).ext = .high → b = true) ∧
    ((s.pin p).mode = .input → (s.pin p).ext = .float → b = s.drawn.getLsbD 0) ∧
    UnchangedBut [.next, .responses, .draws] s t

/-! ## Buttons -/

/-- R180: `BTN_NEW` on a free pin configures it `InputPullup`, appends a released Button, and answers
its id; from MAX_BUTTONS Buttons on (notes/assumptions/16.md) or on a pin with a Button it is refused
`BadSelector`, and then on a pin the driver owns `OwnedPin`. -/
def Obligations.BtnNewCreatesAButton : Prop :=
  ∀ (s : State) (p : PinId),
    (s.nBtn < s.cfg.maxButtons → (∀ b ∈ s.btns, b.pin ≠ p) → s.ownsPin p = false →
      ∃ t, exec (.btnNew p) s = .next t ∧
        t.btns = s.btns ++ [⟨p, false, s.cfg.btnLastReset, false⟩] ∧
        (t.pin p).mode = .inputPullup ∧ (t.pin p).latch = true ∧ (t.pin p).ext = (s.pin p).ext ∧
        (∀ q, q ≠ p → t.pin q = s.pin q) ∧ Responded s t .ok (BitVec.ofNat 16 s.nBtn) ∧
        UnchangedBut [.btns, .pins, .next, .responses] s t) ∧
    ((s.cfg.maxButtons ≤ s.nBtn ∨ ∃ b ∈ s.btns, b.pin = p) →
      ∃ t, exec (.btnNew p) s = .next t ∧ RefusedWith s t .badSelector) ∧
    (s.nBtn < s.cfg.maxButtons → (∀ b ∈ s.btns, b.pin ≠ p) → s.ownsPin p = true →
      ∃ t, exec (.btnNew p) s = .next t ∧ RefusedWith s t .ownedPin)

/-- R181, R184, R7: `BTN_UPDATE` accepts a press on a released Button when the pin reads low and enough
ticks have passed since the last accepted transition, accepts a release at once, and otherwise clears
`changed` alone; the response says whether a transition was accepted. Ticks are counted modulo
`2^TICK_BITS`: with the source's 16 bits R181's `2^16`, for other widths inferred from R7
(notes/assumptions/15.md). -/
def Obligations.BtnUpdateDebouncesPressesOnly : Prop :=
  ∀ (s : State) (i : Byte) (now : Instant) (b : Button), s.btns[i.toNat]? = some b →
    ∃ t b', exec (.btnUpdate i now) s = .next t ∧ t.btns = s.btns.set i.toNat b' ∧
      b'.pin = b.pin ∧ Responded s t .ok (if b'.changed then 1#16 else 0#16) ∧
      (b.isPressed = false → s.readPin b.pin = false →
        s.cfg.debounceTicks ≤ (now - b.last).toNat % 2 ^ s.cfg.tickBits →
        b'.isPressed = true ∧ b'.last.toNat = now.toNat % 2 ^ s.cfg.tickBits ∧ b'.changed = true) ∧
      (b.isPressed = true → s.readPin b.pin = true →
        b'.isPressed = false ∧ b'.last.toNat = now.toNat % 2 ^ s.cfg.tickBits ∧ b'.changed = true) ∧
      ((b.isPressed = true ∧ s.readPin b.pin = false) ∨
        (b.isPressed = false ∧ s.readPin b.pin = true) ∨
        (b.isPressed = false ∧ (now - b.last).toNat % 2 ^ s.cfg.tickBits < s.cfg.debounceTicks) →
        b'.isPressed = b.isPressed ∧ b'.last = b.last ∧ b'.changed = false) ∧
      UnchangedBut [.btns, .next, .responses, .draws] s t

/-- R182: `BTN_WAS_PRESSED` answers whether the last update accepted a press. An id that names no
Button is refused `BadSelector`, here and in `BTN_UPDATE`. -/
def Obligations.BtnWasPressedAnswersTheLastUpdate : Prop :=
  ∀ (s : State) (i : Byte) (now : Instant),
    (∀ b, s.btns[i.toNat]? = some b → ∃ t, exec (.btnWasPressed i) s = .next t ∧
      Responded s t .ok (if b.changed = true ∧ b.isPressed = true then 1#16 else 0#16) ∧
      UnchangedBut [.next, .responses] s t) ∧
    (s.nBtn ≤ i.toNat →
      (∃ t, exec (.btnWasPressed i) s = .next t ∧ RefusedWith s t .badSelector) ∧
      (∃ t, exec (.btnUpdate i now) s = .next t ∧ RefusedWith s t .badSelector))

/-! ## Interrupt control -/

/-- R190 to R193: what each interrupt-control request does to `S.IE` and answers. -/
def Obligations.InterruptControlSetsTheEnable : Prop :=
  ∀ (s : State) (token : Bool),
    (∃ t, exec .csEnter s = .next t ∧ t.core.ie = false ∧
      Responded s t .ok (if s.core.ie then 1#16 else 0#16) ∧
      UnchangedBut [.ie, .next, .responses] s t) ∧
    (∃ t, exec (.csExit token) s = .next t ∧ t.core.ie = token ∧ Responded s t .ok 0#16 ∧
      UnchangedBut [.ie, .next, .responses] s t) ∧
    (∃ t, exec .intEnable s = .next t ∧ t.core.ie = true ∧ Responded s t .ok 0#16 ∧
      UnchangedBut [.ie, .next, .responses] s t) ∧
    (∃ t, exec .intDisable s = .next t ∧ t.core.ie = false ∧ Responded s t .ok 0#16 ∧
      UnchangedBut [.ie, .next, .responses] s t)

/-! ## The environment -/

/-- R212, R213, R215: what a step of the Timer source, of the unconstrained TWI environment and of
the Pin environment changes where it is enabled. That where it is not (the timer off, the peripheral
off, a report pending, no such pin) the turn changes nothing is the model's choice
(notes/assumptions/2.md). -/
def Obligations.EnvironmentStepsChangeOnlyTheirOwn : Prop :=
  ∀ s : State, s.core.refused = false → s.cfg.wf = true →
    (s.turn = .timerMatch → ∃ t, step s = .next t ∧
      t.clock.timPend = (s.clock.timPend || s.clock.timEn) ∧
      UnchangedBut [.timPend, .schedule, .turns] s t) ∧
    (∀ w, s.turn = .twiReport w → s.cfg.twiEnv = .unconstrained →
      s.per.en = true → s.per.int = false → ∃ t, step s = .next t ∧
        t.per.status = classOfStatus s.cfg.statusMap w ∧ t.per.int = true ∧
        UnchangedBut [.pStatus, .pInt, .schedule, .turns] s t) ∧
    (∀ w, s.turn = .twiReport w → (s.per.en = false ∨ s.per.int = true) →
      ∃ t, step s = .next t ∧ UnchangedBut [.schedule, .turns] s t) ∧
    (∀ p l, s.turn = .pinDrive p l → s.cfg.hasPin p = false →
      ∃ t, step s = .next t ∧ UnchangedBut [.schedule, .turns] s t) ∧
    (∀ p l, s.turn = .pinDrive p l → s.cfg.hasPin p = true → ∃ t, step s = .next t ∧
      t.pin p = { s.pin p with ext := l } ∧ (∀ q, q ≠ p → t.pin q = s.pin q) ∧
      UnchangedBut [.pins, .schedule, .turns] s t)

/-- R214: a conforming TWI environment (notes/assumptions/20.md) reports what the table lists for the
last command and the phase (`conformingRows`, the table written out), and writes the status, the pending
bit and the phase. It reports nothing else: a turn with a status word of any class outside the table
changes nothing, which is how the model shows that R214 has no such step (notes/assumptions/2.md,
20.md). -/
def Obligations.ConformingReportsFollowTheTable : Prop :=
  ∀ (s : State) (w : Byte), s.core.refused = false → s.cfg.wf = true →
    s.cfg.twiEnv = .conforming → s.turn = .twiReport w → s.per.en = true → s.per.int = false →
    ∃ t, step s = .next t ∧
      (∀ ph, (classOfStatus s.cfg.statusMap w, ph) ∈ conformingRows s.per.out s.per.phase →
        t.per.status = classOfStatus s.cfg.statusMap w ∧ t.per.int = true ∧ t.per.phase = ph ∧
        UnchangedBut [.pStatus, .pInt, .pPhase, .schedule, .turns] s t) ∧
      ((∀ ph, (classOfStatus s.cfg.statusMap w, ph) ∉ conformingRows s.per.out s.per.phase) →
        UnchangedBut [.schedule, .turns] s t)
end

