-- ==== Sys2Proof/Laws/Encoding.lean ====
section
/-! SUPPORT. The fields of an assembled request word, and of a pin's selector. -/

namespace Sys2Proof

/-- The opcode of an assembled word. -/
@[simp] theorem opField_requestWord (op sel : Byte) (b a : Half) :
    opField (requestWord op sel b a) = op := by
  ext i hi
  simp only [opField, requestWord, ← BitVec.getLsbD_eq_getElem, BitVec.getLsbD_extractLsb',
    BitVec.getLsbD_append, hi, decide_true, Bool.true_and]
  interval_cases i <;> simp

/-- The selector of an assembled word. -/
@[simp] theorem selField_requestWord (op sel : Byte) (b a : Half) :
    selField (requestWord op sel b a) = sel := by
  ext i hi
  simp only [selField, requestWord, ← BitVec.getLsbD_eq_getElem, BitVec.getLsbD_extractLsb',
    BitVec.getLsbD_append, hi, decide_true, Bool.true_and]
  interval_cases i <;> simp

/-- The operand `b` of an assembled word. -/
@[simp] theorem bField_requestWord (op sel : Byte) (b a : Half) :
    bField (requestWord op sel b a) = b := by
  ext i hi
  simp only [bField, requestWord, ← BitVec.getLsbD_eq_getElem, BitVec.getLsbD_extractLsb',
    BitVec.getLsbD_append, hi, decide_true, Bool.true_and]
  interval_cases i <;> simp

/-- The operand `a` of an assembled word. -/
@[simp] theorem aField_requestWord (op sel : Byte) (b a : Half) :
    aField (requestWord op sel b a) = a := by
  ext i hi
  simp only [aField, requestWord, ← BitVec.getLsbD_eq_getElem, BitVec.getLsbD_extractLsb',
    BitVec.getLsbD_append, hi, decide_true, Bool.true_and]
  interval_cases i <;> simp

/-- A word is put together again from its four fields (R80). -/
theorem requestWord_fields (w : ReqWord) :
    requestWord (opField w) (selField w) (bField w) (aField w) = w := by
  ext i hi
  simp only [opField, selField, bField, aField, requestWord, ← BitVec.getLsbD_eq_getElem,
    BitVec.getLsbD_extractLsb', BitVec.getLsbD_append]
  interval_cases i <;> simp

/-- The selector of a pin id holds that pin id, and three bits that are 0 (R90). -/
theorem pinIdOfSel_selOfPin (p : PinId) :
    pinIdOfSel (selOfPin p) = p ∧ (selOfPin p).extractLsb' 5 3 = 0#3 := by
  obtain ⟨port, bit⟩ := p
  revert port bit
  decide

/-- A selector whose upper three bits are 0 is the selector of its pin id (R90). -/
theorem selOfPin_pinIdOfSel (sel : Byte) (h : sel.extractLsb' 5 3 = 0#3) :
    selOfPin (pinIdOfSel sel) = sel := by
  revert sel
  decide

/-- What a selector names (R90). -/
theorem pinOfSel_eq_some_iff (g : Widths) (sel : Byte) (p : PinId) :
    pinOfSel g sel = some p ↔ selOfPin p = sel ∧ g.hasPin p = true := by
  unfold pinOfSel
  constructor
  · intro h
    split at h
    · rename_i hs
      simp only [Bool.and_eq_true, decide_eq_true_eq] at hs
      obtain rfl := Option.some.inj h
      exact ⟨selOfPin_pinIdOfSel _ hs.1, hs.2⟩
    · cases h
  · rintro ⟨rfl, hp⟩
    obtain ⟨hid, hz⟩ := pinIdOfSel_selOfPin p
    simp [hid, hz, hp]

/-- The selector of a pin names that pin (R90). -/
theorem pinOfSel_selOfPin (g : Widths) (p : PinId) (h : g.hasPin p = true) :
    pinOfSel g (selOfPin p) = some p :=
  (pinOfSel_eq_some_iff g _ p).2 ⟨rfl, h⟩

/-- A selector that names a pin is that pin's selector (R90). -/
theorem selOfPin_of_pinOfSel (g : Widths) (sel : Byte) (p : PinId) (h : pinOfSel g sel = some p) :
    selOfPin p = sel :=
  ((pinOfSel_eq_some_iff g sel p).1 h).1

end Sys2Proof
end

