-- ==== Sys2Proof/Laws/Memory.lean ====
section
/-! SUPPORT. The laws of the register address space: a read after a write, other addresses, and the
canonical form, which every operation keeps. -/

namespace Sys2Proof.Machine

/-- A store leaves every other address alone. -/
theorem Memory.byte_store_ne {a x : Nat} (h : x ≠ a) (m : List Host.Cell) (v : Byte) :
    Memory.byte (Memory.store m a v) x = Memory.byte m x := by
  induction m with
  | nil =>
    by_cases hv : v = Memory.blank <;> simp [Memory.store, Memory.byte, hv, h.symm]
  | cons c cs ih =>
    simp only [Memory.store]
    split
    · split <;> simp [Memory.byte, h.symm]
    · split
      · rename_i hc
        split <;> simp [Memory.byte, hc, h.symm]
      · simp [Memory.byte, ih]

/-- An address below every listed one reads as blank. -/
theorem Memory.byte_below {a : Nat} (m : List Host.Cell) (h : ∀ c ∈ m, a < c.1) :
    Memory.byte m a = Memory.blank := by
  induction m with
  | nil => rfl
  | cons c cs ih =>
    have hc := h c (by simp)
    simp only [Memory.byte, if_neg (Nat.ne_of_gt hc)]
    exact ih fun x hx => h x (by simp [hx])

/-- The canonical form of a list, taken apart. -/
theorem Memory.wf_cons (c : Host.Cell) (cs : List Host.Cell) :
    Memory.wf (c :: cs) = true ↔
      c.2 ≠ Memory.blank ∧ (∀ x ∈ cs, c.1 < x.1) ∧ Memory.wf cs = true := by
  simp [Memory.wf, and_assoc]

/-- A store reads back, in the canonical form. -/
theorem Memory.byte_store_same (m : List Host.Cell) (a : Nat) (v : Byte) (h : Memory.wf m = true) :
    Memory.byte (Memory.store m a v) a = v := by
  induction m with
  | nil => by_cases hv : v = Memory.blank <;> simp [Memory.store, Memory.byte, hv]
  | cons c cs ih =>
    obtain ⟨_, hlt, hcs⟩ := (Memory.wf_cons c cs).1 h
    simp only [Memory.store]
    split
    · rename_i ha
      split
      · rename_i hv
        rw [hv]
        refine Memory.byte_below _ fun x hx => ?_
        rcases List.mem_cons.1 hx with rfl | hx
        · exact ha
        · exact Nat.lt_trans ha (hlt x hx)
      · simp [Memory.byte]
    · split
      · rename_i hc
        split
        · rename_i hv
          rw [hv]
          exact Memory.byte_below _ fun x hx => hc ▸ hlt x hx
        · simp [Memory.byte]
      · rename_i hc
        simp [Memory.byte, hc, ih hcs]

/-- A store lists no address but those listed before and the one stored to. -/
theorem Memory.mem_store {m : List Host.Cell} {a : Nat} {v : Byte} {x : Host.Cell}
    (h : x ∈ Memory.store m a v) : x ∈ m ∨ x = (a, v) := by
  induction m with
  | nil =>
    by_cases hv : v = Memory.blank <;> simp [Memory.store, hv] at h
    exact .inr h
  | cons c cs ih =>
    simp only [Memory.store] at h
    split at h
    · split at h
      · exact .inl h
      · rcases List.mem_cons.1 h with rfl | h
        · exact .inr rfl
        · exact .inl h
    · split at h
      · split at h
        · exact .inl (List.mem_cons_of_mem _ h)
        · rcases List.mem_cons.1 h with rfl | h
          · exact .inr rfl
          · exact .inl (List.mem_cons_of_mem _ h)
      · rcases List.mem_cons.1 h with rfl | h
        · exact .inl (by simp)
        · exact (ih h).imp (List.mem_cons_of_mem _) id

/-- A store keeps the canonical form. -/
theorem Memory.store_wf (m : List Host.Cell) (a : Nat) (v : Byte) (h : Memory.wf m = true) :
    Memory.wf (Memory.store m a v) = true := by
  induction m with
  | nil => by_cases hv : v = Memory.blank <;> simp [Memory.store, Memory.wf, hv]
  | cons c cs ih =>
    obtain ⟨hc, hlt, hcs⟩ := (Memory.wf_cons c cs).1 h
    simp only [Memory.store]
    split
    · rename_i ha
      split
      · exact h
      · rename_i hv
        refine (Memory.wf_cons _ _).2 ⟨hv, fun x hx => ?_, h⟩
        rcases List.mem_cons.1 hx with rfl | hx
        · exact ha
        · exact Nat.lt_trans ha (hlt x hx)
    · split
      · rename_i hca
        split
        · exact hcs
        · rename_i hv
          exact (Memory.wf_cons _ _).2 ⟨hv, fun x hx => hca ▸ hlt x hx, hcs⟩
      · rename_i hna hne
        refine (Memory.wf_cons _ _).2 ⟨hc, fun x hx => ?_, ih hcs⟩
        rcases Memory.mem_store hx with hx | rfl
        · exact hlt x hx
        · exact Nat.lt_of_le_of_ne (Nat.le_of_not_lt hna) hne

/-- A register write keeps the canonical form. -/
theorem Memory.write_wf (m : Memory) (a : Nat) (w : RegWidth) (v : Half) (h : Memory.wf m = true) :
    Memory.wf (Memory.write m a w v) = true := by
  cases w
  · exact Memory.store_wf _ _ _ h
  · exact Memory.store_wf _ _ _ (Memory.store_wf _ _ _ h)

/-- Reset memory has the canonical form. -/
theorem Memory.ofReset_wf (ds : List RegDesc) (vs : List Half) :
    Memory.wf (Memory.ofReset ds vs) = true := by
  induction ds generalizing vs with
  | nil => rfl
  | cons d ds ih => exact Memory.write_wf _ _ _ _ (ih _)

/-- A register write leaves every address outside the register alone. -/
theorem Memory.byte_write_outside {m : Memory} {a : Nat} {w : RegWidth} {v : Half} {x : Nat}
    (h : x < a ∨ a + w.bytes ≤ x) :
    Memory.byte (Memory.write m a w v) x = Memory.byte m x := by
  cases w
  · exact Memory.byte_store_ne (by simp only [RegWidth.bytes] at h; omega) _ _
  · simp only [RegWidth.bytes] at h
    simp only [Memory.write]
    rw [Memory.byte_store_ne (by omega), Memory.byte_store_ne (by omega)]

/-- A register read depends on the register's own bytes only. -/
theorem Memory.read_congr {m n : Memory} {a : Nat} {w : RegWidth}
    (h : ∀ x, a ≤ x → x < a + w.bytes → Memory.byte m x = Memory.byte n x) :
    Memory.read m a w = Memory.read n a w := by
  cases w <;> simp only [RegWidth.bytes] at h <;> simp only [Memory.read]
  · rw [h a (by omega) (by omega)]
  · rw [h a (by omega) (by omega), h (a + 1) (by omega) (by omega)]

/-- The bits a register of a width can hold. -/
def widthMask : RegWidth → Half
  | .w8 => 0x00FF#16
  | .w16 => 0xFFFF#16

/-- A register write reads back, cut to the register's width. -/
theorem Memory.read_write_same (m : Memory) (a : Nat) (w : RegWidth) (v : Half)
    (h : Memory.wf m = true) : Memory.read (Memory.write m a w v) a w = v &&& widthMask w := by
  cases w
  · simp only [Memory.read, Memory.write, Memory.byte_store_same _ _ _ h, widthMask]
    ext i hi
    simp only [← BitVec.getLsbD_eq_getElem]
    interval_cases i <;> simp
  · simp only [Memory.read, Memory.write,
      Memory.byte_store_same _ _ _ (Memory.store_wf _ _ _ h),
      Memory.byte_store_ne (Nat.ne_of_lt (Nat.lt_succ_self a)),
      Memory.byte_store_same _ _ _ h, widthMask]
    ext i hi
    simp only [← BitVec.getLsbD_eq_getElem, BitVec.getLsbD_append,
      BitVec.getLsbD_extractLsb']
    interval_cases i <;> simp

/-- Registers at disjoint addresses do not disturb each other. -/
theorem Memory.read_write_disjoint {m : Memory} {d e : RegDesc} {v : Half}
    (h : d.disjoint e = true) :
    Memory.read (Memory.write m d.addr d.width v) e.addr e.width = Memory.read m e.addr e.width := by
  have h' : d.addr + d.width.bytes ≤ e.addr ∨ e.addr + e.width.bytes ≤ d.addr := by
    simpa [RegDesc.disjoint] using h
  exact Memory.read_congr fun x _ _ => Memory.byte_write_outside (by omega)

end Sys2Proof.Machine
end

