-- ==== Sys2Proof/Laws/State.lean ====
section
/-! SUPPORT. The fields of a state after each named update: one lemma per field per update, so that
no proof unfolds a record update. Where an update changes one field of a group, each field of that
group has its own lemma. -/

namespace Sys2Proof.Machine

/-! ### `respond` -/

@[simp] theorem State.respond_cfg (s : State) (c : RespCode) (x : Half) : (s.respond c x).cfg = s.cfg := rfl
@[simp] theorem State.respond_core_ie (s : State) (c : RespCode) (x : Half) :
    (s.respond c x).core.ie = s.core.ie := rfl
@[simp] theorem State.respond_core_fg (s : State) (c : RespCode) (x : Half) :
    (s.respond c x).core.fg = s.core.fg := rfl
@[simp] theorem State.respond_core_next (s : State) (c : RespCode) (x : Half) :
    (s.respond c x).core.next = s.core.next + 1 := rfl
@[simp] theorem State.respond_core_refused (s : State) (c : RespCode) (x : Half) :
    (s.respond c x).core.refused = s.core.refused := rfl
@[simp] theorem State.respond_core_refusal (s : State) (c : RespCode) (x : Half) :
    (s.respond c x).core.refusal = s.core.refusal := rfl
@[simp] theorem State.respond_clock (s : State) (c : RespCode) (x : Half) : (s.respond c x).clock = s.clock := rfl
@[simp] theorem State.respond_drv (s : State) (c : RespCode) (x : Half) : (s.respond c x).drv = s.drv := rfl
@[simp] theorem State.respond_per (s : State) (c : RespCode) (x : Half) : (s.respond c x).per = s.per := rfl
@[simp] theorem State.respond_trace (s : State) (c : RespCode) (x : Half) : (s.respond c x).trace = s.trace := rfl
@[simp] theorem State.respond_pins (s : State) (c : RespCode) (x : Half) : (s.respond c x).pins = s.pins := rfl
@[simp] theorem State.respond_btns (s : State) (c : RespCode) (x : Half) : (s.respond c x).btns = s.btns := rfl
@[simp] theorem State.respond_mem (s : State) (c : RespCode) (x : Half) : (s.respond c x).mem = s.mem := rfl
@[simp] theorem State.respond_caller_program (s : State) (c : RespCode) (x : Half) :
    (s.respond c x).caller.program = s.caller.program := rfl
@[simp] theorem State.respond_caller_responses (s : State) (c : RespCode) (x : Half) :
    (s.respond c x).caller.responses = s.caller.responses ++ [⟨c, x⟩] := rfl
@[simp] theorem State.respond_oracle (s : State) (c : RespCode) (x : Half) : (s.respond c x).oracle = s.oracle := rfl

/-! ### `refuse` -/

@[simp] theorem State.refuse_cfg (s : State) (e : RefuseReason) : (s.refuse e).cfg = s.cfg := rfl
@[simp] theorem State.refuse_core_ie (s : State) (e : RefuseReason) :
    (s.refuse e).core.ie = s.core.ie := rfl
@[simp] theorem State.refuse_core_fg (s : State) (e : RefuseReason) :
    (s.refuse e).core.fg = s.core.fg := rfl
@[simp] theorem State.refuse_core_next (s : State) (e : RefuseReason) :
    (s.refuse e).core.next = s.core.next := rfl
@[simp] theorem State.refuse_core_refused (s : State) (e : RefuseReason) :
    (s.refuse e).core.refused = true := rfl
@[simp] theorem State.refuse_core_refusal (s : State) (e : RefuseReason) :
    (s.refuse e).core.refusal = some e := rfl
@[simp] theorem State.refuse_clock (s : State) (e : RefuseReason) : (s.refuse e).clock = s.clock := rfl
@[simp] theorem State.refuse_drv (s : State) (e : RefuseReason) : (s.refuse e).drv = s.drv := rfl
@[simp] theorem State.refuse_per (s : State) (e : RefuseReason) : (s.refuse e).per = s.per := rfl
@[simp] theorem State.refuse_trace (s : State) (e : RefuseReason) : (s.refuse e).trace = s.trace := rfl
@[simp] theorem State.refuse_pins (s : State) (e : RefuseReason) : (s.refuse e).pins = s.pins := rfl
@[simp] theorem State.refuse_btns (s : State) (e : RefuseReason) : (s.refuse e).btns = s.btns := rfl
@[simp] theorem State.refuse_mem (s : State) (e : RefuseReason) : (s.refuse e).mem = s.mem := rfl
@[simp] theorem State.refuse_caller (s : State) (e : RefuseReason) : (s.refuse e).caller = s.caller := rfl
@[simp] theorem State.refuse_oracle (s : State) (e : RefuseReason) : (s.refuse e).oracle = s.oracle := rfl

/-! ### `setIe` -/

@[simp] theorem State.setIe_cfg (s : State) (b : Bool) : (s.setIe b).cfg = s.cfg := rfl
@[simp] theorem State.setIe_core_ie (s : State) (b : Bool) :
    (s.setIe b).core.ie = b := rfl
@[simp] theorem State.setIe_core_fg (s : State) (b : Bool) :
    (s.setIe b).core.fg = s.core.fg := rfl
@[simp] theorem State.setIe_core_next (s : State) (b : Bool) :
    (s.setIe b).core.next = s.core.next := rfl
@[simp] theorem State.setIe_core_refused (s : State) (b : Bool) :
    (s.setIe b).core.refused = s.core.refused := rfl
@[simp] theorem State.setIe_core_refusal (s : State) (b : Bool) :
    (s.setIe b).core.refusal = s.core.refusal := rfl
@[simp] theorem State.setIe_clock (s : State) (b : Bool) : (s.setIe b).clock = s.clock := rfl
@[simp] theorem State.setIe_drv (s : State) (b : Bool) : (s.setIe b).drv = s.drv := rfl
@[simp] theorem State.setIe_per (s : State) (b : Bool) : (s.setIe b).per = s.per := rfl
@[simp] theorem State.setIe_trace (s : State) (b : Bool) : (s.setIe b).trace = s.trace := rfl
@[simp] theorem State.setIe_pins (s : State) (b : Bool) : (s.setIe b).pins = s.pins := rfl
@[simp] theorem State.setIe_btns (s : State) (b : Bool) : (s.setIe b).btns = s.btns := rfl
@[simp] theorem State.setIe_mem (s : State) (b : Bool) : (s.setIe b).mem = s.mem := rfl
@[simp] theorem State.setIe_caller (s : State) (b : Bool) : (s.setIe b).caller = s.caller := rfl
@[simp] theorem State.setIe_oracle (s : State) (b : Bool) : (s.setIe b).oracle = s.oracle := rfl

/-! ### `setFg` -/

@[simp] theorem State.setFg_cfg (s : State) (f : FgPhase) : (s.setFg f).cfg = s.cfg := rfl
@[simp] theorem State.setFg_core_ie (s : State) (f : FgPhase) :
    (s.setFg f).core.ie = s.core.ie := rfl
@[simp] theorem State.setFg_core_fg (s : State) (f : FgPhase) :
    (s.setFg f).core.fg = f := rfl
@[simp] theorem State.setFg_core_next (s : State) (f : FgPhase) :
    (s.setFg f).core.next = s.core.next := rfl
@[simp] theorem State.setFg_core_refused (s : State) (f : FgPhase) :
    (s.setFg f).core.refused = s.core.refused := rfl
@[simp] theorem State.setFg_core_refusal (s : State) (f : FgPhase) :
    (s.setFg f).core.refusal = s.core.refusal := rfl
@[simp] theorem State.setFg_clock (s : State) (f : FgPhase) : (s.setFg f).clock = s.clock := rfl
@[simp] theorem State.setFg_drv (s : State) (f : FgPhase) : (s.setFg f).drv = s.drv := rfl
@[simp] theorem State.setFg_per (s : State) (f : FgPhase) : (s.setFg f).per = s.per := rfl
@[simp] theorem State.setFg_trace (s : State) (f : FgPhase) : (s.setFg f).trace = s.trace := rfl
@[simp] theorem State.setFg_pins (s : State) (f : FgPhase) : (s.setFg f).pins = s.pins := rfl
@[simp] theorem State.setFg_btns (s : State) (f : FgPhase) : (s.setFg f).btns = s.btns := rfl
@[simp] theorem State.setFg_mem (s : State) (f : FgPhase) : (s.setFg f).mem = s.mem := rfl
@[simp] theorem State.setFg_caller (s : State) (f : FgPhase) : (s.setFg f).caller = s.caller := rfl
@[simp] theorem State.setFg_oracle (s : State) (f : FgPhase) : (s.setFg f).oracle = s.oracle := rfl

/-! ### `afterDraw` -/

@[simp] theorem State.afterDraw_cfg (s : State) : s.afterDraw.cfg = s.cfg := rfl
@[simp] theorem State.afterDraw_core (s : State) : s.afterDraw.core = s.core := rfl
@[simp] theorem State.afterDraw_clock (s : State) : s.afterDraw.clock = s.clock := rfl
@[simp] theorem State.afterDraw_drv (s : State) : s.afterDraw.drv = s.drv := rfl
@[simp] theorem State.afterDraw_per (s : State) : s.afterDraw.per = s.per := rfl
@[simp] theorem State.afterDraw_trace (s : State) : s.afterDraw.trace = s.trace := rfl
@[simp] theorem State.afterDraw_pins (s : State) : s.afterDraw.pins = s.pins := rfl
@[simp] theorem State.afterDraw_btns (s : State) : s.afterDraw.btns = s.btns := rfl
@[simp] theorem State.afterDraw_mem (s : State) : s.afterDraw.mem = s.mem := rfl
@[simp] theorem State.afterDraw_caller (s : State) : s.afterDraw.caller = s.caller := rfl
@[simp] theorem State.afterDraw_oracle_schedule (s : State) :
    s.afterDraw.oracle.schedule = s.oracle.schedule := rfl
@[simp] theorem State.afterDraw_oracle_turns (s : State) :
    s.afterDraw.oracle.turns = s.oracle.turns := rfl
@[simp] theorem State.afterDraw_oracle_draws (s : State) :
    s.afterDraw.oracle.draws = s.oracle.draws + 1 := rfl

/-! ### `afterTurn` -/

@[simp] theorem State.afterTurn_cfg (s : State) : s.afterTurn.cfg = s.cfg := rfl
@[simp] theorem State.afterTurn_core (s : State) : s.afterTurn.core = s.core := rfl
@[simp] theorem State.afterTurn_clock (s : State) : s.afterTurn.clock = s.clock := rfl
@[simp] theorem State.afterTurn_drv (s : State) : s.afterTurn.drv = s.drv := rfl
@[simp] theorem State.afterTurn_per (s : State) : s.afterTurn.per = s.per := rfl
@[simp] theorem State.afterTurn_trace (s : State) : s.afterTurn.trace = s.trace := rfl
@[simp] theorem State.afterTurn_pins (s : State) : s.afterTurn.pins = s.pins := rfl
@[simp] theorem State.afterTurn_btns (s : State) : s.afterTurn.btns = s.btns := rfl
@[simp] theorem State.afterTurn_mem (s : State) : s.afterTurn.mem = s.mem := rfl
@[simp] theorem State.afterTurn_caller (s : State) : s.afterTurn.caller = s.caller := rfl
@[simp] theorem State.afterTurn_oracle_schedule (s : State) :
    s.afterTurn.oracle.schedule = s.oracle.schedule.tail := rfl
@[simp] theorem State.afterTurn_oracle_turns (s : State) :
    s.afterTurn.oracle.turns = s.oracle.turns + 1 := rfl
@[simp] theorem State.afterTurn_oracle_draws (s : State) :
    s.afterTurn.oracle.draws = s.oracle.draws := rfl

/-! ### `writeReg` -/

@[simp] theorem State.writeReg_cfg (s : State) (d : RegDesc) (w : Half) : (s.writeReg d w).cfg = s.cfg := rfl
@[simp] theorem State.writeReg_core (s : State) (d : RegDesc) (w : Half) : (s.writeReg d w).core = s.core := rfl
@[simp] theorem State.writeReg_clock (s : State) (d : RegDesc) (w : Half) : (s.writeReg d w).clock = s.clock := rfl
@[simp] theorem State.writeReg_drv (s : State) (d : RegDesc) (w : Half) : (s.writeReg d w).drv = s.drv := rfl
@[simp] theorem State.writeReg_per (s : State) (d : RegDesc) (w : Half) : (s.writeReg d w).per = s.per := rfl
@[simp] theorem State.writeReg_trace (s : State) (d : RegDesc) (w : Half) : (s.writeReg d w).trace = s.trace := rfl
@[simp] theorem State.writeReg_pins (s : State) (d : RegDesc) (w : Half) : (s.writeReg d w).pins = s.pins := rfl
@[simp] theorem State.writeReg_btns (s : State) (d : RegDesc) (w : Half) : (s.writeReg d w).btns = s.btns := rfl
@[simp] theorem State.writeReg_mem (s : State) (d : RegDesc) (w : Half) :
    (s.writeReg d w).mem = Memory.write s.mem d.addr d.width (w &&& d.mask) := rfl
@[simp] theorem State.writeReg_caller (s : State) (d : RegDesc) (w : Half) : (s.writeReg d w).caller = s.caller := rfl
@[simp] theorem State.writeReg_oracle (s : State) (d : RegDesc) (w : Half) : (s.writeReg d w).oracle = s.oracle := rfl

/-! ### `setPin` -/

@[simp] theorem State.setPin_cfg (s : State) (p : PinId) (v : Pin) : (s.setPin p v).cfg = s.cfg := rfl
@[simp] theorem State.setPin_core (s : State) (p : PinId) (v : Pin) : (s.setPin p v).core = s.core := rfl
@[simp] theorem State.setPin_clock (s : State) (p : PinId) (v : Pin) : (s.setPin p v).clock = s.clock := rfl
@[simp] theorem State.setPin_drv (s : State) (p : PinId) (v : Pin) : (s.setPin p v).drv = s.drv := rfl
@[simp] theorem State.setPin_per (s : State) (p : PinId) (v : Pin) : (s.setPin p v).per = s.per := rfl
@[simp] theorem State.setPin_trace (s : State) (p : PinId) (v : Pin) : (s.setPin p v).trace = s.trace := rfl
@[simp] theorem State.setPin_pins (s : State) (p : PinId) (v : Pin) :
    (s.setPin p v).pins = s.pins.set p.index.val v := rfl
@[simp] theorem State.setPin_btns (s : State) (p : PinId) (v : Pin) : (s.setPin p v).btns = s.btns := rfl
@[simp] theorem State.setPin_mem (s : State) (p : PinId) (v : Pin) : (s.setPin p v).mem = s.mem := rfl
@[simp] theorem State.setPin_caller (s : State) (p : PinId) (v : Pin) : (s.setPin p v).caller = s.caller := rfl
@[simp] theorem State.setPin_oracle (s : State) (p : PinId) (v : Pin) : (s.setPin p v).oracle = s.oracle := rfl

/-! ### `pinConfigure` -/

@[simp] theorem State.pinConfigure_cfg (s : State) (p : PinId) (m : PinMode) : (s.pinConfigure p m).cfg = s.cfg := rfl
@[simp] theorem State.pinConfigure_core (s : State) (p : PinId) (m : PinMode) : (s.pinConfigure p m).core = s.core := rfl
@[simp] theorem State.pinConfigure_clock (s : State) (p : PinId) (m : PinMode) : (s.pinConfigure p m).clock = s.clock := rfl
@[simp] theorem State.pinConfigure_drv (s : State) (p : PinId) (m : PinMode) : (s.pinConfigure p m).drv = s.drv := rfl
@[simp] theorem State.pinConfigure_per (s : State) (p : PinId) (m : PinMode) : (s.pinConfigure p m).per = s.per := rfl
@[simp] theorem State.pinConfigure_trace (s : State) (p : PinId) (m : PinMode) : (s.pinConfigure p m).trace = s.trace := rfl
@[simp] theorem State.pinConfigure_btns (s : State) (p : PinId) (m : PinMode) : (s.pinConfigure p m).btns = s.btns := rfl
@[simp] theorem State.pinConfigure_mem (s : State) (p : PinId) (m : PinMode) : (s.pinConfigure p m).mem = s.mem := rfl
@[simp] theorem State.pinConfigure_caller (s : State) (p : PinId) (m : PinMode) : (s.pinConfigure p m).caller = s.caller := rfl
@[simp] theorem State.pinConfigure_oracle (s : State) (p : PinId) (m : PinMode) : (s.pinConfigure p m).oracle = s.oracle := rfl

/-! ### `setLatch` -/

@[simp] theorem State.setLatch_cfg (s : State) (p : PinId) (b : Bool) : (s.setLatch p b).cfg = s.cfg := rfl
@[simp] theorem State.setLatch_core (s : State) (p : PinId) (b : Bool) : (s.setLatch p b).core = s.core := rfl
@[simp] theorem State.setLatch_clock (s : State) (p : PinId) (b : Bool) : (s.setLatch p b).clock = s.clock := rfl
@[simp] theorem State.setLatch_drv (s : State) (p : PinId) (b : Bool) : (s.setLatch p b).drv = s.drv := rfl
@[simp] theorem State.setLatch_per (s : State) (p : PinId) (b : Bool) : (s.setLatch p b).per = s.per := rfl
@[simp] theorem State.setLatch_trace (s : State) (p : PinId) (b : Bool) : (s.setLatch p b).trace = s.trace := rfl
@[simp] theorem State.setLatch_btns (s : State) (p : PinId) (b : Bool) : (s.setLatch p b).btns = s.btns := rfl
@[simp] theorem State.setLatch_mem (s : State) (p : PinId) (b : Bool) : (s.setLatch p b).mem = s.mem := rfl
@[simp] theorem State.setLatch_caller (s : State) (p : PinId) (b : Bool) : (s.setLatch p b).caller = s.caller := rfl
@[simp] theorem State.setLatch_oracle (s : State) (p : PinId) (b : Bool) : (s.setLatch p b).oracle = s.oracle := rfl

/-! ### `twiCmd` -/

@[simp] theorem State.twiCmd_cfg (s : State) (c : TwiCommand) : (s.twiCmd c).cfg = s.cfg := rfl
@[simp] theorem State.twiCmd_core (s : State) (c : TwiCommand) : (s.twiCmd c).core = s.core := rfl
@[simp] theorem State.twiCmd_clock (s : State) (c : TwiCommand) : (s.twiCmd c).clock = s.clock := rfl
@[simp] theorem State.twiCmd_drv (s : State) (c : TwiCommand) : (s.twiCmd c).drv = s.drv := rfl
@[simp] theorem State.twiCmd_per_en (s : State) (c : TwiCommand) :
    (s.twiCmd c).per.en = s.per.en := rfl
@[simp] theorem State.twiCmd_per_ie (s : State) (c : TwiCommand) :
    (s.twiCmd c).per.ie = commandIe c s.per.ie := rfl
@[simp] theorem State.twiCmd_per_ea (s : State) (c : TwiCommand) :
    (s.twiCmd c).per.ea = commandEa c s.per.ea := rfl
@[simp] theorem State.twiCmd_per_int (s : State) (c : TwiCommand) :
    (s.twiCmd c).per.int = false := rfl
@[simp] theorem State.twiCmd_per_status (s : State) (c : TwiCommand) :
    (s.twiCmd c).per.status = s.per.status := rfl
@[simp] theorem State.twiCmd_per_out (s : State) (c : TwiCommand) :
    (s.twiCmd c).per.out = commandOut c := rfl
@[simp] theorem State.twiCmd_per_phase (s : State) (c : TwiCommand) :
    (s.twiCmd c).per.phase = s.per.phase := rfl
@[simp] theorem State.twiCmd_per_rate (s : State) (c : TwiCommand) :
    (s.twiCmd c).per.rate = s.per.rate := rfl
@[simp] theorem State.twiCmd_trace (s : State) (c : TwiCommand) :
    (s.twiCmd c).trace = s.trace ++ commandTrace c := rfl
@[simp] theorem State.twiCmd_pins (s : State) (c : TwiCommand) : (s.twiCmd c).pins = s.pins := rfl
@[simp] theorem State.twiCmd_btns (s : State) (c : TwiCommand) : (s.twiCmd c).btns = s.btns := rfl
@[simp] theorem State.twiCmd_mem (s : State) (c : TwiCommand) : (s.twiCmd c).mem = s.mem := rfl
@[simp] theorem State.twiCmd_caller (s : State) (c : TwiCommand) : (s.twiCmd c).caller = s.caller := rfl
@[simp] theorem State.twiCmd_oracle (s : State) (c : TwiCommand) : (s.twiCmd c).oracle = s.oracle := rfl

/-! ### `irqEntry` -/

@[simp] theorem State.irqEntry_cfg (s : State) (e : Irq) : (s.irqEntry e).cfg = s.cfg := by cases e <;> rfl
@[simp] theorem State.irqEntry_core_ie (s : State) (e : Irq) :
    (s.irqEntry e).core.ie = false := by cases e <;> rfl
@[simp] theorem State.irqEntry_core_fg (s : State) (e : Irq) :
    (s.irqEntry e).core.fg = s.core.fg := by cases e <;> rfl
@[simp] theorem State.irqEntry_core_next (s : State) (e : Irq) :
    (s.irqEntry e).core.next = s.core.next := by cases e <;> rfl
@[simp] theorem State.irqEntry_core_refused (s : State) (e : Irq) :
    (s.irqEntry e).core.refused = s.core.refused := by cases e <;> rfl
@[simp] theorem State.irqEntry_core_refusal (s : State) (e : Irq) :
    (s.irqEntry e).core.refusal = s.core.refusal := by cases e <;> rfl
@[simp] theorem State.irqEntry_clock_flag (s : State) (e : Irq) :
    (s.irqEntry e).clock.flag = s.clock.flag := by cases e <;> rfl
@[simp] theorem State.irqEntry_clock_tick (s : State) (e : Irq) :
    (s.irqEntry e).clock.tick = s.clock.tick := by cases e <;> rfl
@[simp] theorem State.irqEntry_clock_timEn (s : State) (e : Irq) :
    (s.irqEntry e).clock.timEn = s.clock.timEn := by cases e <;> rfl
@[simp] theorem State.irqEntry_clock_timIe (s : State) (e : Irq) :
    (s.irqEntry e).clock.timIe = s.clock.timIe := by cases e <;> rfl
@[simp] theorem State.irqEntry_drv (s : State) (e : Irq) : (s.irqEntry e).drv = s.drv := by cases e <;> rfl
@[simp] theorem State.irqEntry_per (s : State) (e : Irq) : (s.irqEntry e).per = s.per := by cases e <;> rfl
@[simp] theorem State.irqEntry_trace (s : State) (e : Irq) : (s.irqEntry e).trace = s.trace := by cases e <;> rfl
@[simp] theorem State.irqEntry_pins (s : State) (e : Irq) : (s.irqEntry e).pins = s.pins := by cases e <;> rfl
@[simp] theorem State.irqEntry_btns (s : State) (e : Irq) : (s.irqEntry e).btns = s.btns := by cases e <;> rfl
@[simp] theorem State.irqEntry_mem (s : State) (e : Irq) : (s.irqEntry e).mem = s.mem := by cases e <;> rfl
@[simp] theorem State.irqEntry_caller (s : State) (e : Irq) : (s.irqEntry e).caller = s.caller := by cases e <;> rfl
@[simp] theorem State.irqEntry_oracle (s : State) (e : Irq) : (s.irqEntry e).oracle = s.oracle := by cases e <;> rfl

/-! ### `irqReturn` -/

@[simp] theorem State.irqReturn_cfg (s : State) : s.irqReturn.cfg = s.cfg := rfl
@[simp] theorem State.irqReturn_core_ie (s : State) :
    s.irqReturn.core.ie = true := rfl
@[simp] theorem State.irqReturn_core_fg (s : State) :
    s.irqReturn.core.fg = s.core.fg := rfl
@[simp] theorem State.irqReturn_core_next (s : State) :
    s.irqReturn.core.next = s.core.next := rfl
@[simp] theorem State.irqReturn_core_refused (s : State) :
    s.irqReturn.core.refused = s.core.refused := rfl
@[simp] theorem State.irqReturn_core_refusal (s : State) :
    s.irqReturn.core.refusal = s.core.refusal := rfl
@[simp] theorem State.irqReturn_clock (s : State) : s.irqReturn.clock = s.clock := rfl
@[simp] theorem State.irqReturn_drv (s : State) : s.irqReturn.drv = s.drv := rfl
@[simp] theorem State.irqReturn_per (s : State) : s.irqReturn.per = s.per := rfl
@[simp] theorem State.irqReturn_trace (s : State) : s.irqReturn.trace = s.trace := rfl
@[simp] theorem State.irqReturn_pins (s : State) : s.irqReturn.pins = s.pins := rfl
@[simp] theorem State.irqReturn_btns (s : State) : s.irqReturn.btns = s.btns := rfl
@[simp] theorem State.irqReturn_mem (s : State) : s.irqReturn.mem = s.mem := rfl
@[simp] theorem State.irqReturn_caller (s : State) : s.irqReturn.caller = s.caller := rfl
@[simp] theorem State.irqReturn_oracle (s : State) : s.irqReturn.oracle = s.oracle := rfl

/-! ### `report` -/

@[simp] theorem State.report_cfg (s : State) (c : StatusClass) : (s.report c).cfg = s.cfg := rfl
@[simp] theorem State.report_core (s : State) (c : StatusClass) : (s.report c).core = s.core := rfl
@[simp] theorem State.report_clock (s : State) (c : StatusClass) : (s.report c).clock = s.clock := rfl
@[simp] theorem State.report_drv (s : State) (c : StatusClass) : (s.report c).drv = s.drv := rfl
@[simp] theorem State.report_per_en (s : State) (c : StatusClass) :
    (s.report c).per.en = s.per.en := rfl
@[simp] theorem State.report_per_ie (s : State) (c : StatusClass) :
    (s.report c).per.ie = s.per.ie := rfl
@[simp] theorem State.report_per_ea (s : State) (c : StatusClass) :
    (s.report c).per.ea = s.per.ea := rfl
@[simp] theorem State.report_per_int (s : State) (c : StatusClass) :
    (s.report c).per.int = true := rfl
@[simp] theorem State.report_per_status (s : State) (c : StatusClass) :
    (s.report c).per.status = c := rfl
@[simp] theorem State.report_per_out (s : State) (c : StatusClass) :
    (s.report c).per.out = s.per.out := rfl
@[simp] theorem State.report_per_phase (s : State) (c : StatusClass) :
    (s.report c).per.phase = s.per.phase := rfl
@[simp] theorem State.report_per_rate (s : State) (c : StatusClass) :
    (s.report c).per.rate = s.per.rate := rfl
@[simp] theorem State.report_trace (s : State) (c : StatusClass) : (s.report c).trace = s.trace := rfl
@[simp] theorem State.report_pins (s : State) (c : StatusClass) : (s.report c).pins = s.pins := rfl
@[simp] theorem State.report_btns (s : State) (c : StatusClass) : (s.report c).btns = s.btns := rfl
@[simp] theorem State.report_mem (s : State) (c : StatusClass) : (s.report c).mem = s.mem := rfl
@[simp] theorem State.report_caller (s : State) (c : StatusClass) : (s.report c).caller = s.caller := rfl
@[simp] theorem State.report_oracle (s : State) (c : StatusClass) : (s.report c).oracle = s.oracle := rfl

/-! ### `handBack` -/

@[simp] theorem handBack_cfg (s : State) : (handBack s).cfg = s.cfg := rfl
@[simp] theorem handBack_core (s : State) : (handBack s).core = s.core := rfl
@[simp] theorem handBack_clock (s : State) : (handBack s).clock = s.clock := rfl
@[simp] theorem handBack_drv_flag (s : State) :
    (handBack s).drv.flag = s.drv.flag := rfl
@[simp] theorem handBack_drv_state (s : State) :
    (handBack s).drv.state = .ready := rfl
@[simp] theorem handBack_drv_sla (s : State) :
    (handBack s).drv.sla = s.drv.sla := rfl
@[simp] theorem handBack_drv_buf (s : State) :
    (handBack s).drv.buf = s.drv.buf := rfl
@[simp] theorem handBack_drv_rd (s : State) :
    (handBack s).drv.rd = s.drv.rd := rfl
@[simp] theorem handBack_drv_wr (s : State) :
    (handBack s).drv.wr = s.drv.wr := rfl
@[simp] theorem handBack_drv_err (s : State) :
    (handBack s).drv.err = s.drv.err := rfl
@[simp] theorem handBack_per (s : State) : (handBack s).per = s.per := rfl
@[simp] theorem handBack_trace (s : State) : (handBack s).trace = s.trace := rfl
@[simp] theorem handBack_pins (s : State) : (handBack s).pins = s.pins := rfl
@[simp] theorem handBack_btns (s : State) : (handBack s).btns = s.btns := rfl
@[simp] theorem handBack_mem (s : State) : (handBack s).mem = s.mem := rfl
@[simp] theorem handBack_caller (s : State) : (handBack s).caller = s.caller := rfl
@[simp] theorem handBack_oracle (s : State) : (handBack s).oracle = s.oracle := rfl

/-- Entry into the timer handler clears the pending match (60_exceptions.md R208). -/
@[simp] theorem State.irqEntry_timer_timPend (s : State) :
    (s.irqEntry .timer).clock.timPend = false := rfl

/-- Entry into the TWI handler leaves the timer's pending match. -/
@[simp] theorem State.irqEntry_twi_timPend (s : State) :
    (s.irqEntry .twi).clock.timPend = s.clock.timPend := rfl

end Sys2Proof.Machine
end

