-- ==== Sys2Proof/Laws/Pins.lean ====
section
/-! SUPPORT. Reading a pin after a pin is put, and the pin operations. -/

namespace Sys2Proof.Machine

/-- Two pins have one number only if they are one pin. -/
theorem PinId.index_injective {p q : PinId} (h : p.index.val = q.index.val) : p = q := by
  obtain ⟨⟨pp, hpp⟩, ⟨pb, hpb⟩⟩ := p
  obtain ⟨⟨qp, hqp⟩, ⟨qb, hqb⟩⟩ := q
  simp only [PinId.index, PinId.pinBits] at h hpb hqb
  simp only [PinId.mk.injEq, Fin.mk.injEq]
  simp only [PinId.portBits] at hpp hqp
  omega

/-- The pin just put reads back. -/
@[simp] theorem State.pin_setPin_same (s : State) (p : PinId) (v : Pin) :
    (s.setPin p v).pin p = v := by
  simp [State.pin]

/-- Every other pin is left alone. -/
theorem State.pin_setPin_ne (s : State) {p q : PinId} (v : Pin) (h : q ≠ p) :
    (s.setPin p v).pin q = s.pin q := by
  have : p.index.val ≠ q.index.val := fun e => h (PinId.index_injective e).symm
  simp [State.pin, this]

/-- `PinConfigure` gives its pin the mode and the latch that goes with it (R120). -/
@[simp] theorem State.pin_pinConfigure_same (s : State) (p : PinId) (m : PinMode) :
    (s.pinConfigure p m).pin p =
      { s.pin p with mode := m, latch := latchFor m (s.pin p).latch } := by
  simp [State.pinConfigure]

/-- `PinConfigure` leaves every other pin alone. -/
theorem State.pin_pinConfigure_ne (s : State) {p q : PinId} (m : PinMode) (h : q ≠ p) :
    (s.pinConfigure p m).pin q = s.pin q :=
  State.pin_setPin_ne s _ h

/-- Setting a latch gives its pin that latch. -/
@[simp] theorem State.pin_setLatch_same (s : State) (p : PinId) (b : Bool) :
    (s.setLatch p b).pin p = { s.pin p with latch := b } := by
  simp [State.setLatch]

/-- Setting a latch leaves every other pin alone. -/
theorem State.pin_setLatch_ne (s : State) {p q : PinId} (b : Bool) (h : q ≠ p) :
    (s.setLatch p b).pin q = s.pin q :=
  State.pin_setPin_ne s _ h

/-- A state with the same pins has the same pin `p`. -/
theorem State.pin_congr {s t : State} (h : t.pins = s.pins) (p : PinId) : t.pin p = s.pin p := by
  simp [State.pin, h]

/-- Every pin right after reset. -/
@[simp] theorem State.pin_reset (c : Config) (p : PinId) :
    (State.resetOf c).pin p = { mode := .input, latch := false, ext := .float } := by
  simp [State.pin, State.resetOf]

end Sys2Proof.Machine
end

