-- ==== Sys2Proof/Laws/Registers.lean ====
section
/-! SUPPORT. Masks, what a register read returns bit by bit, and what a register write does. -/

namespace Sys2Proof.Machine

/-- Bit `i` of a mask is its predicate at `i`. -/
theorem maskOf_getLsbD (p : Nat → Bool) (i : Nat) :
    (maskOf p).getLsbD i = (decide (i < 16) && p i) := by
  by_cases h : i < 16
  · have key : ∀ (l : List Nat), l.Nodup → (∀ j ∈ l, j < 16) →
        (l.foldr (fun j acc => if p j then acc ||| (1#16 <<< j) else acc) 0#16).getLsbD i =
          (decide (i ∈ l) && p i) := by
      intro l
      induction l with
      | nil => simp
      | cons j js ih =>
        intro hnd hlt
        have ih' := ih (List.nodup_cons.1 hnd).2 fun k hk => hlt k (by simp [hk])
        have hj := hlt j (by simp)
        have hjs := (List.nodup_cons.1 hnd).1
        have hbit : (1#16 <<< j).getLsbD i = decide (i = j) := by
          simp only [BitVec.getLsbD_shiftLeft, h, decide_true, Bool.true_and]
          by_cases hij : i = j
          · simp [hij]
          · by_cases hlt' : i < j
            · simp [hlt', hij]
            · have : i - j ≠ 0 := by omega
              simp [hlt', hij, BitVec.getLsbD_one, this]
        simp only [List.foldr_cons]
        by_cases hp : p j
        · simp only [hp, if_true, BitVec.getLsbD_or, ih', hbit]
          by_cases hij : i = j
          · subst hij; simp [hp]
          · simp [hij]
        · simp only [hp, ih', Bool.false_eq_true, if_false]
          by_cases hij : i = j
          · subst hij; simp [hp]
          · simp [hij]
    have := key (List.range 16) List.nodup_range fun j hj => List.mem_range.1 hj
    simpa [maskOf, h] using this
  · rw [BitVec.getLsbD_of_ge _ _ (by omega)]
    simp [h]

/-- A read returns, bit by bit, what R100 says. -/
theorem readValue_getLsbD (d : RegDesc) (stored draw : Half) (i : Nat) (h : i < 16) :
    (readValue d stored draw).getLsbD i =
      match (d.decl i).kind with
      | .storage => stored.getLsbD i
      | .hwDriven => draw.getLsbD i
      | .zero => false := by
  have hs : (kindMask d .storage).getLsbD i = ((d.decl i).kind == .storage) := by
    rw [kindMask, maskOf_getLsbD]; simp [h]
  have hh : (kindMask d .hwDriven).getLsbD i = ((d.decl i).kind == .hwDriven) := by
    rw [kindMask, maskOf_getLsbD]; simp [h]
  unfold readValue
  split
  · rename_i h0
    rw [h0] at hh
    rw [BitVec.getLsbD_and, hs]
    cases hk : (d.decl i).kind <;> simp_all
  · rw [BitVec.getLsbD_or, BitVec.getLsbD_and, BitVec.getLsbD_and, hs, hh]
    cases hk : (d.decl i).kind <;> simp

/-- What is stored in a register just written: the value, cut to the width and the mask. -/
theorem State.stored_writeReg_same (s : State) (d : RegDesc) (w : Half)
    (h : Memory.wf s.mem = true) :
    (s.writeReg d w).stored d = w &&& d.mask &&& widthMask d.width := by
  simp only [State.stored, State.writeReg_mem]
  exact Memory.read_write_same _ _ _ _ h

/-- The mask of a well-formed descriptor lies within its width. -/
theorem RegDesc.mask_within (d : RegDesc) (h : d.wf = true) : d.mask &&& widthMask d.width = d.mask := by
  have hlen : d.bits.length = d.width.bits := by
    simp only [RegDesc.wf, Bool.and_eq_true, beq_iff_eq] at h; exact h.1
  have hall : ∀ i < 16, d.bitWf i = true := by
    simp only [RegDesc.wf, Bool.and_eq_true, List.all_eq_true, List.mem_range] at h; exact h.2
  ext i hi
  simp only [← BitVec.getLsbD_eq_getElem, BitVec.getLsbD_and]
  by_cases hm : d.mask.getLsbD i
  · have hw : (d.decl i).writable = true := by
      have := hall i hi
      simp only [RegDesc.bitWf, Bool.and_eq_true, beq_iff_eq] at this
      rw [this.1.1]; exact hm
    have hlt : i < d.width.bits := by
      by_contra hge
      have : d.decl i = .undeclared := by
        simp only [RegDesc.decl, List.getD_eq_getElem?_getD]
        rw [List.getElem?_eq_none (by omega)]; rfl
      rw [this] at hw; simp [BitDecl.writable] at hw
    rw [hm]
    revert hlt
    cases d.width <;> simp only [RegWidth.bits, widthMask] <;> intro hlt <;>
      interval_cases i <;> rfl
  · simp only [Bool.not_eq_true] at hm; simp [hm]

/-- A masked write to a well-formed register stores the value under the mask (R101). -/
theorem State.stored_writeReg (s : State) (d : RegDesc) (w : Half) (hm : Memory.wf s.mem = true)
    (hd : d.wf = true) : (s.writeReg d w).stored d = w &&& d.mask := by
  rw [State.stored_writeReg_same s d w hm, BitVec.and_assoc, RegDesc.mask_within d hd]

/-- A masked write leaves a register at disjoint addresses alone. -/
theorem State.stored_writeReg_disjoint (s : State) (d e : RegDesc) (w : Half)
    (h : d.disjoint e = true) : (s.writeReg d w).stored e = s.stored e :=
  Memory.read_write_disjoint h

/-- A masked write leaves every byte outside the register alone. -/
theorem State.writeReg_byte_outside (s : State) (d : RegDesc) (w : Half) (a : Nat)
    (h : a < d.addr ∨ d.addr + d.width.bytes ≤ a) :
    Memory.byte (s.writeReg d w).mem a = Memory.byte s.mem a :=
  Memory.byte_write_outside h

/-- What a register selector resolves to (R102). -/
theorem State.resolveReg_ok_iff (s : State) (r : Byte) (d : RegDesc) :
    s.resolveReg r = .ok d ↔ s.desc r = some d ∧ d.owner = .free := by
  unfold State.resolveReg
  cases h : s.desc r with
  | none => simp
  | some e =>
    by_cases he : e.owner = .free
    · simp only [he, if_true, Except.ok.injEq, Option.some.injEq]
      exact ⟨fun h => ⟨h, h ▸ he⟩, fun h => h.1⟩
    · simp only [he, if_false, Option.some.injEq, reduceCtorEq, false_iff, not_and]
      exact fun h => h ▸ he

/-- What a Bit-set request resolves to (R102, R103). -/
theorem State.resolveBits_ok_iff (s : State) (r : Byte) (m : Half) (need : Access) (d : RegDesc) :
    s.resolveBits r m need = .ok d ↔
      s.resolveReg r = .ok d ∧ bitSetWf d m = true ∧ (combinedCap d m).allows need = true := by
  unfold State.resolveBits
  cases h : s.resolveReg r with
  | error e => simp
  | ok e =>
    by_cases hw : bitSetWf e m <;> by_cases hc : (combinedCap e m).allows need <;>
      simp only [hw, hc, Bool.not_true, Bool.not_false, if_true, Bool.false_eq_true, if_false,
        Except.ok.injEq, reduceCtorEq, false_iff] <;> (try constructor) <;> (try rintro rfl) <;>
      simp_all
    · rintro rfl; simp_all
    · rintro rfl; simp_all
    · rintro rfl; simp_all

end Sys2Proof.Machine
end

