-- ==== Sys2Proof/Laws/Ops.lean ====
section
/-! SUPPORT. What each shared operation can do, said once: ending a request, driving a latch, taking
an interrupt, the TWI handler, the foreground's step, and the step of the machine. -/

namespace Sys2Proof.Machine

/-- Ending a request changes `S.next` and the responses alone. -/
theorem State.respond_frame (s : State) (c : RespCode) (x : Half) :
    UnchangedBut [.next, .responses] s (s.respond c x) := by
  intro p hp; cases p <;> simp_all [Part.agree, State.pin]

/-- Ending a request gives its response. -/
theorem State.respond_responded (s : State) (c : RespCode) (x : Half) :
    Responded s (s.respond c x) c x := ⟨rfl, rfl⟩

/-- A refusal changes `S.refused` alone. -/
theorem State.refuse_refusedWith (s : State) (e : RefuseReason) : RefusedWith s (s.refuse e) e := by
  refine ⟨rfl, rfl, fun p hp => ?_⟩
  cases p <;> simp_all [Part.agree, State.pin]

/-- Driving a latch: refused on a pin that is no output, refused on an owned pin, else done. -/
theorem driveLatch_cases (p : PinId) (b : Bool) (s : State) :
    ((s.pin p).mode ≠ .output ∧ driveLatch p b s = s.refuse .pinMode) ∨
    ((s.pin p).mode = .output ∧ s.ownsPin p = true ∧ driveLatch p b s = s.refuse .ownedPin) ∨
    ((s.pin p).mode = .output ∧ s.ownsPin p = false ∧
      driveLatch p b s = (s.setLatch p b).respond .ok 0#16) := by
  unfold driveLatch
  by_cases h : (s.pin p).mode = .output
  · by_cases ho : s.ownsPin p
    · exact .inr (.inl ⟨h, ho, by simp [h, ho]⟩)
    · exact .inr (.inr ⟨h, by simpa using ho, by simp [h, ho]⟩)
  · exact .inl ⟨h, by simp [h]⟩

/-- A taken timer interrupt: the tick advances, the pending match is cleared, interrupts are enabled
again. -/
theorem takeInterrupt_timer (s : State) :
    s.takeInterrupt .timer timerHandler =
      { s with core := { s.core with ie := true },
               clock := { s.clock with tick := nextTick s.cfg.toWidths s.clock.tick, timPend := false } } := rfl

/-- The TWI handler's table, keyed on the status class (43_twi_driver.md R165). -/
theorem twiHandler_eq (s : State) :
    twiHandler s =
      match s.per.status with
      | .start => sendAddress s
      | .repStart => sendAddress s
      | .slaAck => sendNextOrStop s
      | .dataAck => sendNextOrStop s
      | .slaNack => failWith .sendAddressNack .stop s
      | .dataNack => failWith .sendDataNack .stop s
      | .arbLost => failWith .arbitrationLost .release s
      | .busError => failWith .busError .stop s
      | .other => s.twiCmd .noack := by
  unfold twiHandler
  cases s.per.status <;> rfl

/-- What an acknowledged byte leads to: the next byte of the FIFO, or STOP and the record back. -/
theorem sendNextOrStop_cases (s : State) :
    (s.drv.rd < s.drv.wr ∧ sendNextOrStop s =
      State.twiCmd { s with drv := { s.drv with rd := s.drv.rd + 1 } }
        (.send (s.drv.buf.getD s.drv.rd 0#8))) ∨
    (s.drv.wr ≤ s.drv.rd ∧ sendNextOrStop s = handBack (s.twiCmd .stop)) := by
  unfold sendNextOrStop TwiDriver.hasByte
  by_cases h : s.drv.rd < s.drv.wr
  · exact .inl ⟨h, by simp [h]⟩
  · exact .inr ⟨Nat.le_of_not_lt h, by simp [h]⟩

/-- What a conforming environment may report is what the rows of R214, written out, list. -/
theorem conformingPhase_eq_some_iff (o : LastCommand) (p : BusPhase) (c : StatusClass)
    (ph : BusPhase) : conformingPhase o p c = some ph ↔ (c, ph) ∈ conformingRows o p := by
  cases o <;> cases p <;> cases c <;> cases ph <;> decide

/-- A step that answers a next state is the step of the agent whose turn it is. -/
theorem step_next_iff (s t : State) :
    step s = .next t ↔
      s.core.refused = false ∧ s.cfg.wf = true ∧ runTurn s.turn s.afterTurn = .next t := by
  unfold step agentStep
  cases h : s.core.refused <;> cases hw : s.cfg.wf <;> simp

/-- What the foreground's step is, phase by phase. -/
theorem foreground_cases (s : State) :
    (s.core.fg = .idle ∧ s.request = none ∧ foreground s = .next s) ∨
    (∃ q, s.core.fg = .idle ∧ s.request = some q ∧ foreground s = takeRequest q s) ∨
    (∃ r v, s.core.fg = .rmwWrite r v ∧ foreground s = finishRmw r v s) ∨
    (s.core.fg = .twiWait ∧ foreground s = awaitWrite s) := by
  unfold foreground
  cases hf : s.core.fg with
  | idle =>
    cases hq : s.request with
    | none => exact .inl ⟨rfl, rfl, rfl⟩
    | some q => exact .inr (.inl ⟨q, rfl, rfl, rfl⟩)
  | rmwWrite r v => exact .inr (.inr (.inl ⟨r, v, rfl, rfl⟩))
  | twiWait => exact .inr (.inr (.inr ⟨rfl, rfl⟩))

end Sys2Proof.Machine
end

