-- ==== Sys2Proof/Laws/PerInstr.lean ====
section
/-! SUPPORT. Statements made for each instruction: the opcode field of its encoding, and its payload,
are those of 30_encoding.md R81 and R82. -/

namespace Sys2Proof.Laws

/-- The opcode of a request (R81); an event or a status class has none. -/
def opcodeOf : Instr → Option Byte
  | .regSetRaw _ _ => some 0x01#8
  | .regGet _ => some 0x02#8
  | .regSetBits _ _ => some 0x03#8
  | .regClearBits _ _ => some 0x04#8
  | .regReadBits _ _ => some 0x05#8
  | .pinConfigure _ _ => some 0x10#8
  | .pinSetHigh _ => some 0x11#8
  | .pinSetLow _ => some 0x12#8
  | .pinToggle _ => some 0x13#8
  | .pinRead _ => some 0x14#8
  | .clkInit => some 0x20#8
  | .clkNow => some 0x21#8
  | .instantElapsed _ _ => some 0x22#8
  | .clkDrop => some 0x23#8
  | .twiInit => some 0x30#8
  | .twiSetAddress _ => some 0x31#8
  | .twiWrite _ => some 0x32#8
  | .twiDrop => some 0x33#8
  | .btnNew _ => some 0x40#8
  | .btnUpdate _ _ => some 0x41#8
  | .btnWasPressed _ => some 0x42#8
  | .csEnter => some 0x50#8
  | .csExit _ => some 0x51#8
  | .intEnable => some 0x52#8
  | .intDisable => some 0x53#8
  | .irqTimer => none
  | .irqTwi => none
  | .twiStatusStart => none
  | .twiStatusRepStart => none
  | .twiStatusSlaAck => none
  | .twiStatusDataAck => none
  | .twiStatusSlaNack => none
  | .twiStatusDataNack => none
  | .twiStatusArbLost => none
  | .twiStatusBusError => none
  | .twiStatusOther => none

/-- The payload of a request: the bytes of a `TWI_WRITE`, else none (R82). -/
def payloadOf : Instr → List Byte
  | .twiWrite payload => payload
  | .regSetRaw _ _ => []
  | .regGet _ => []
  | .regSetBits _ _ => []
  | .regClearBits _ _ => []
  | .regReadBits _ _ => []
  | .pinConfigure _ _ => []
  | .pinSetHigh _ => []
  | .pinSetLow _ => []
  | .pinToggle _ => []
  | .pinRead _ => []
  | .clkInit => []
  | .clkNow => []
  | .instantElapsed _ _ => []
  | .clkDrop => []
  | .twiInit => []
  | .twiSetAddress _ => []
  | .twiDrop => []
  | .btnNew _ => []
  | .btnUpdate _ _ => []
  | .btnWasPressed _ => []
  | .csEnter => []
  | .csExit _ => []
  | .intEnable => []
  | .intDisable => []
  | .irqTimer => []
  | .irqTwi => []
  | .twiStatusStart => []
  | .twiStatusRepStart => []
  | .twiStatusSlaAck => []
  | .twiStatusDataAck => []
  | .twiStatusSlaNack => []
  | .twiStatusDataNack => []
  | .twiStatusArbLost => []
  | .twiStatusBusError => []
  | .twiStatusOther => []

/-- A request encodes to a word with its opcode and to its payload; an event and a status class encode
to no request. -/
def EncodesItsOpcode.Statement (i : Instr) : Prop :=
  match encode i with
  | .request q => opcodeOf i = some (opField q.word) ∧ q.payload = payloadOf i
  | .event _ => opcodeOf i = none
  | .status _ => opcodeOf i = none

theorem EncodesItsOpcode.regSetRaw (r : Byte) (v : Half) : EncodesItsOpcode.Statement (.regSetRaw r v) := by
  simp [EncodesItsOpcode.Statement, encode, plainEncoding, opcodeOf, payloadOf]

theorem EncodesItsOpcode.regGet (r : Byte) : EncodesItsOpcode.Statement (.regGet r) := by
  simp [EncodesItsOpcode.Statement, encode, plainEncoding, opcodeOf, payloadOf]

theorem EncodesItsOpcode.regSetBits (r : Byte) (m : Half) : EncodesItsOpcode.Statement (.regSetBits r m) := by
  simp [EncodesItsOpcode.Statement, encode, plainEncoding, opcodeOf, payloadOf]

theorem EncodesItsOpcode.regClearBits (r : Byte) (m : Half) : EncodesItsOpcode.Statement (.regClearBits r m) := by
  simp [EncodesItsOpcode.Statement, encode, plainEncoding, opcodeOf, payloadOf]

theorem EncodesItsOpcode.regReadBits (r : Byte) (m : Half) : EncodesItsOpcode.Statement (.regReadBits r m) := by
  simp [EncodesItsOpcode.Statement, encode, plainEncoding, opcodeOf, payloadOf]

theorem EncodesItsOpcode.pinConfigure (p : PinId) (mode : PinMode) : EncodesItsOpcode.Statement (.pinConfigure p mode) := by
  simp [EncodesItsOpcode.Statement, encode, plainEncoding, opcodeOf, payloadOf]

theorem EncodesItsOpcode.pinSetHigh (p : PinId) : EncodesItsOpcode.Statement (.pinSetHigh p) := by
  simp [EncodesItsOpcode.Statement, encode, plainEncoding, opcodeOf, payloadOf]

theorem EncodesItsOpcode.pinSetLow (p : PinId) : EncodesItsOpcode.Statement (.pinSetLow p) := by
  simp [EncodesItsOpcode.Statement, encode, plainEncoding, opcodeOf, payloadOf]

theorem EncodesItsOpcode.pinToggle (p : PinId) : EncodesItsOpcode.Statement (.pinToggle p) := by
  simp [EncodesItsOpcode.Statement, encode, plainEncoding, opcodeOf, payloadOf]

theorem EncodesItsOpcode.pinRead (p : PinId) : EncodesItsOpcode.Statement (.pinRead p) := by
  simp [EncodesItsOpcode.Statement, encode, plainEncoding, opcodeOf, payloadOf]

theorem EncodesItsOpcode.clkInit : EncodesItsOpcode.Statement .clkInit := by
  simp [EncodesItsOpcode.Statement, encode, plainEncoding, opcodeOf, payloadOf]

theorem EncodesItsOpcode.clkNow : EncodesItsOpcode.Statement .clkNow := by
  simp [EncodesItsOpcode.Statement, encode, plainEncoding, opcodeOf, payloadOf]

theorem EncodesItsOpcode.instantElapsed (now start : Instant) : EncodesItsOpcode.Statement (.instantElapsed now start) := by
  simp [EncodesItsOpcode.Statement, encode, plainEncoding, opcodeOf, payloadOf]

theorem EncodesItsOpcode.clkDrop : EncodesItsOpcode.Statement .clkDrop := by
  simp [EncodesItsOpcode.Statement, encode, plainEncoding, opcodeOf, payloadOf]

theorem EncodesItsOpcode.twiInit : EncodesItsOpcode.Statement .twiInit := by
  simp [EncodesItsOpcode.Statement, encode, plainEncoding, opcodeOf, payloadOf]

theorem EncodesItsOpcode.twiSetAddress (addr : Byte) : EncodesItsOpcode.Statement (.twiSetAddress addr) := by
  simp [EncodesItsOpcode.Statement, encode, plainEncoding, opcodeOf, payloadOf]

theorem EncodesItsOpcode.twiWrite (payload : List Byte) : EncodesItsOpcode.Statement (.twiWrite payload) := by
  simp [EncodesItsOpcode.Statement, encode, opcodeOf, payloadOf]

theorem EncodesItsOpcode.twiDrop : EncodesItsOpcode.Statement .twiDrop := by
  simp [EncodesItsOpcode.Statement, encode, plainEncoding, opcodeOf, payloadOf]

theorem EncodesItsOpcode.btnNew (p : PinId) : EncodesItsOpcode.Statement (.btnNew p) := by
  simp [EncodesItsOpcode.Statement, encode, plainEncoding, opcodeOf, payloadOf]

theorem EncodesItsOpcode.btnUpdate (i : Byte) (now : Instant) : EncodesItsOpcode.Statement (.btnUpdate i now) := by
  simp [EncodesItsOpcode.Statement, encode, plainEncoding, opcodeOf, payloadOf]

theorem EncodesItsOpcode.btnWasPressed (i : Byte) : EncodesItsOpcode.Statement (.btnWasPressed i) := by
  simp [EncodesItsOpcode.Statement, encode, plainEncoding, opcodeOf, payloadOf]

theorem EncodesItsOpcode.csEnter : EncodesItsOpcode.Statement .csEnter := by
  simp [EncodesItsOpcode.Statement, encode, plainEncoding, opcodeOf, payloadOf]

theorem EncodesItsOpcode.csExit (token : Bool) : EncodesItsOpcode.Statement (.csExit token) := by
  simp [EncodesItsOpcode.Statement, encode, plainEncoding, opcodeOf, payloadOf]

theorem EncodesItsOpcode.intEnable : EncodesItsOpcode.Statement .intEnable := by
  simp [EncodesItsOpcode.Statement, encode, plainEncoding, opcodeOf, payloadOf]

theorem EncodesItsOpcode.intDisable : EncodesItsOpcode.Statement .intDisable := by
  simp [EncodesItsOpcode.Statement, encode, plainEncoding, opcodeOf, payloadOf]

theorem EncodesItsOpcode.irqTimer : EncodesItsOpcode.Statement .irqTimer := rfl

theorem EncodesItsOpcode.irqTwi : EncodesItsOpcode.Statement .irqTwi := rfl

theorem EncodesItsOpcode.twiStatusStart : EncodesItsOpcode.Statement .twiStatusStart := rfl

theorem EncodesItsOpcode.twiStatusRepStart : EncodesItsOpcode.Statement .twiStatusRepStart := rfl

theorem EncodesItsOpcode.twiStatusSlaAck : EncodesItsOpcode.Statement .twiStatusSlaAck := rfl

theorem EncodesItsOpcode.twiStatusDataAck : EncodesItsOpcode.Statement .twiStatusDataAck := rfl

theorem EncodesItsOpcode.twiStatusSlaNack : EncodesItsOpcode.Statement .twiStatusSlaNack := rfl

theorem EncodesItsOpcode.twiStatusDataNack : EncodesItsOpcode.Statement .twiStatusDataNack := rfl

theorem EncodesItsOpcode.twiStatusArbLost : EncodesItsOpcode.Statement .twiStatusArbLost := rfl

theorem EncodesItsOpcode.twiStatusBusError : EncodesItsOpcode.Statement .twiStatusBusError := rfl

theorem EncodesItsOpcode.twiStatusOther : EncodesItsOpcode.Statement .twiStatusOther := rfl

end Sys2Proof.Laws
end

