-- ==== Sys2Proof/Laws/Widths.lean ====
section
/-! SUPPORT. Arithmetic modulo `2^TICK_BITS`: the range of an Instant, the source's width, and the next
tick and the elapsed ticks as numbers (00_scope.md R7, R17). -/

namespace Sys2Proof

/-- A wrapped value as a number. -/
theorem Widths.wrap_toNat (g : Widths) (x : Half) : (g.wrap x).toNat = x.toNat % 2 ^ g.tickBits := by
  have h : x.toNat % 2 ^ g.tickBits < 2 ^ 16 := Nat.lt_of_le_of_lt (Nat.mod_le _ _) x.isLt
  simp only [Widths.wrap, BitVec.toNat_ofNat, Nat.mod_eq_of_lt h]

/-- A wrapped value has `TICK_BITS` bits. -/
theorem Widths.wrap_lt (g : Widths) (x : Half) : (g.wrap x).toNat < 2 ^ g.tickBits := by
  rw [Widths.wrap_toNat]; exact Nat.mod_lt _ (Nat.two_pow_pos _)

/-- A value of `TICK_BITS` bits is not changed. -/
theorem Widths.wrap_of_lt (g : Widths) (x : Half) (h : x.toNat < 2 ^ g.tickBits) : g.wrap x = x := by
  apply BitVec.eq_of_toNat_eq
  rw [Widths.wrap_toNat, Nat.mod_eq_of_lt h]

/-- With the source's 16 bits nothing is cut off. -/
theorem Widths.wrap_of_sixteen (g : Widths) (x : Half) (h : g.tickBits = 16) : g.wrap x = x :=
  g.wrap_of_lt x (by rw [h]; exact x.isLt)

/-- A sum of 16 bits, wrapped, is the sum modulo `2^TICK_BITS`. -/
theorem Widths.wrap_add_toNat (g : Widths) (x y : Half) (h : g.tickBits ≤ 16) :
    (g.wrap (x + y)).toNat = (x.toNat + y.toNat) % 2 ^ g.tickBits := by
  rw [Widths.wrap_toNat, BitVec.toNat_add, Nat.mod_mod_of_dvd _ (Nat.pow_dvd_pow 2 h)]

namespace Machine

/-- The next tick as a number (42_clock.md R139). -/
theorem nextTick_toNat (g : Widths) (t : Instant) (h : g.tickBits ≤ 16) :
    (nextTick g t).toNat = (t.toNat + 1) % 2 ^ g.tickBits :=
  g.wrap_add_toNat t 1#16 h

/-- The elapsed ticks as a number (42_clock.md R137). -/
theorem elapsed_toNat (g : Widths) (x y : Instant) (h : g.tickBits ≤ 16) :
    (elapsed g x y).toNat = (x.toNat + (65536 - y.toNat)) % 2 ^ g.tickBits := by
  rw [elapsed, Widths.wrap_toNat, BitVec.toNat_sub, Nat.mod_mod_of_dvd _ (Nat.pow_dvd_pow 2 h),
    Nat.add_comm]

end Machine

end Sys2Proof
end

