-- ==== Sys2Proof/Machine/Assembler.lean ====
section
/-! DEFINITION. The caller's notation (30_encoding.md R94, R95): the textual form of a request, the
`@k` operand, and the pseudo-requests. The caller substitutes and expands before a word is formed;
the machine sees encoded words only (notes/assumptions/21.md). -/

namespace Sys2Proof.Machine

/-! ## The textual form (R94) -/

/-- A register operand, `r<n>`. -/
def textOfReg (r : Byte) : String := "r" ++ toString r.toNat

/-- A pin operand, `P<port>.<bit>`. -/
def textOfPin (p : PinId) : String := "P" ++ toString p.port.val ++ "." ++ toString p.bit.val

/-- A Button operand, `B<n>`. -/
def textOfButton (i : Byte) : String := "B" ++ toString i.toNat

/-- A mode keyword. -/
def textOfMode : PinMode → String
  | .output => "Output"
  | .input => "Input"
  | .inputPullup => "InputPullup"

/-- A payload, `[x, y, ...]`, in decimal. -/
def textOfPayload (bs : List Byte) : String :=
  "[" ++ String.intercalate ", " (bs.map fun b => toString b.toNat) ++ "]"

/-- The textual form of an instruction: the mnemonic, then the operands in the order `sel`, `a`, `b`,
immediates in decimal. An event or a status class is its mnemonic. -/
def textOf : Instr → String
  | .regSetRaw r v => "REG_SET_RAW " ++ textOfReg r ++ ", " ++ toString v.toNat
  | .regGet r => "REG_GET " ++ textOfReg r
  | .regSetBits r m => "REG_SET_BITS " ++ textOfReg r ++ ", " ++ toString m.toNat
  | .regClearBits r m => "REG_CLEAR_BITS " ++ textOfReg r ++ ", " ++ toString m.toNat
  | .regReadBits r m => "REG_READ_BITS " ++ textOfReg r ++ ", " ++ toString m.toNat
  | .pinConfigure p mode => "PIN_CONFIGURE " ++ textOfPin p ++ ", " ++ textOfMode mode
  | .pinSetHigh p => "PIN_SET_HIGH " ++ textOfPin p
  | .pinSetLow p => "PIN_SET_LOW " ++ textOfPin p
  | .pinToggle p => "PIN_TOGGLE " ++ textOfPin p
  | .pinRead p => "PIN_READ " ++ textOfPin p
  | .clkInit => "CLK_INIT"
  | .clkNow => "CLK_NOW"
  | .instantElapsed now start =>
    "INSTANT_ELAPSED " ++ toString now.toNat ++ ", " ++ toString start.toNat
  | .clkDrop => "CLK_DROP"
  | .twiInit => "TWI_INIT"
  | .twiSetAddress addr => "TWI_SET_ADDRESS " ++ toString addr.toNat
  | .twiWrite payload => "TWI_WRITE " ++ textOfPayload payload
  | .twiDrop => "TWI_DROP"
  | .btnNew p => "BTN_NEW " ++ textOfPin p
  | .btnUpdate i now => "BTN_UPDATE " ++ textOfButton i ++ ", " ++ toString now.toNat
  | .btnWasPressed i => "BTN_WAS_PRESSED " ++ textOfButton i
  | .csEnter => "CS_ENTER"
  | .csExit token => "CS_EXIT " ++ (if token then "1" else "0")
  | .intEnable => "INT_ENABLE"
  | .intDisable => "INT_DISABLE"
  | .irqTimer => "IRQ_TIMER"
  | .irqTwi => "IRQ_TWI"
  | .twiStatusStart => "TWI_STATUS_START"
  | .twiStatusRepStart => "TWI_STATUS_REP_START"
  | .twiStatusSlaAck => "TWI_STATUS_SLA_ACK"
  | .twiStatusDataAck => "TWI_STATUS_DATA_ACK"
  | .twiStatusSlaNack => "TWI_STATUS_SLA_NACK"
  | .twiStatusDataNack => "TWI_STATUS_DATA_NACK"
  | .twiStatusArbLost => "TWI_STATUS_ARB_LOST"
  | .twiStatusBusError => "TWI_STATUS_BUS_ERROR"
  | .twiStatusOther => "TWI_STATUS_OTHER"

/-! ## Lines with `@k`, and the pseudo-requests (R94, R95) -/

/-- A line of a caller's program: a request, with the operand `a` or `b` taken from the response to
an earlier request where the line writes `@k`, issued only if the named request answered `Ok`. -/
structure AsmLine where
  instr  : Instr
  aFrom  : Option Nat := none
  bFrom  : Option Nat := none
  onlyOk : Option Nat := none
deriving DecidableEq, Repr

/-- The `data` that `@k` stands for; none if request `k` has no response yet. -/
def dataOf (responses : List Response) (k : Nat) : Option Half :=
  (responses[k]?).map Response.data

/-- A field of the word with its `@k` substituted, if it has one. -/
def substituted (responses : List Response) (ref : Option Nat) (old : Half) : Option Half :=
  match ref with
  | none => some old
  | some k => dataOf responses k

/-- The line is to be issued: it has no condition, or the request it names answered `Ok` (R95). -/
def AsmLine.issued (line : AsmLine) (responses : List Response) : Bool :=
  match line.onlyOk with
  | none => true
  | some k => (responses[k]?).map Response.code == some .ok

/-- The request a line forms from the responses given so far. -/
def AsmLine.form (line : AsmLine) (responses : List Response) : Option Request :=
  match encode line.instr with
  | .request q =>
    match substituted responses line.aFrom (aField q.word),
        substituted responses line.bFrom (bField q.word) with
    | some a, some b => some ⟨requestWord (opField q.word) (selField q.word) b a, q.payload⟩
    | _, _ => none
  | .event _ => none
  | .status _ => none

/-- The pseudo-requests (R95). -/
inductive Pseudo where
  | twiSend (addr : Byte) (bytes : List Byte)
  | btnPoll (i : Byte)
  | critical (body : List AsmLine)
deriving DecidableEq, Repr

/-- The expansion of a pseudo-request that starts at request `k` of the program (R95). -/
def Pseudo.expand (k : Nat) : Pseudo → List AsmLine
  | .twiSend addr bytes => [⟨.twiSetAddress addr, none, none, none⟩, ⟨.twiWrite bytes, none, none, some k⟩]
  | .btnPoll i => [⟨.clkNow, none, none, none⟩, ⟨.btnUpdate i 0#16, some k, none, none⟩]
  | .critical body =>
    [⟨.csEnter, none, none, none⟩] ++ body ++ [⟨.csExit false, some k, none, none⟩]

end Sys2Proof.Machine
end

