-- ==== Sys2Proof/Tests/Slice0.lean ====
section
/-! SUPPORT. Tests of the model against the spec's own vectors (95_test_vectors.md, named in each
docstring), and for every statement with hypotheses a witness: concrete states and operands that meet
them all, at the boundary of each clause. -/

namespace Sys2Proof.Tests

open Sys2Proof Sys2Proof.Machine

/-! ## Helpers -/

/-- The answer is a next state that passes the check. -/
def leaves (r : Result) (ok : State → Bool) : Bool :=
  match r with
  | .next t => ok t
  | .fault _ => false
  | .refused _ => false

/-- The last response given. -/
def lastResponse (s : State) : Option Response := s.caller.responses.getLast?

/-- A request without payload. -/
def word (w : ReqWord) : Request := ⟨w, []⟩

/-- Reset, with a program and the turns to come. -/
def atTurns (ts : List Turn) (qs : List Request) : State :=
  { State.reset with caller := { program := qs, responses := [] },
                     oracle := { schedule := ts, turns := 0, draws := 0 } }

/-- A running Clock. -/
def withClock (s : State) (tick : Instant) (pend ie : Bool) : State :=
  { s with clock := { flag := true, tick := tick, timEn := true, timIe := true, timPend := pend }
           core := { s.core with ie := ie } }

/-- A driver that is Ready with `S.sla = 0x78`. -/
def withDriver (s : State) (ie : Bool) : State :=
  { s with drv := { s.drv with flag := true, state := .ready, sla := 0x78#8 }
           per := { s.per with en := true, ea := true, rate := 100000 }
           core := { s.core with ie := ie } }

/-- A `TWI_WRITE [0x00, 0xAF]` in flight, whose peripheral has reported class `c`. -/
def inFlight (s : State) (c : StatusClass) (rd : Nat) (ie : Bool) : State :=
  { s with drv := { flag := true, state := .transmitting, sla := 0x78#8,
                    buf := [0x00#8, 0xAF#8] ++ List.replicate 30 0#8, rd := rd, wr := 2, err := .none }
           per := { s.per with en := true, ie := true, ea := true, int := true, status := c,
                               out := .start }
           core := { s.core with ie := ie, fg := .twiWait }
           caller := { program := [⟨0x320000000002#48, [0x00#8, 0xAF#8]⟩], responses := [] } }

/-- Reset with the byte `v` in register r0. -/
def withR0 (v : Byte) : State := { State.reset with mem := Memory.store [] 0x40 v }

/-- Reset with pin `p` as given. -/
def withPin (p : PinId) (v : Pin) : State := State.reset.setPin p v

/-- Reset with one Button on P2.4, configured `InputPullup`, at level `ext`. -/
def withButton (b : Button) (ext : ExtLevel) : State :=
  { withPin ⟨2, 4⟩ ⟨.inputPullup, true, ext⟩ with btns := [b] }

/-- The Button of rows BTN-4 to BTN-11. -/
def button (pressed changed : Bool) (last : Instant) : Button := ⟨⟨2, 4⟩, pressed, last, changed⟩

/-! ## Well-formedness refuses the ill-formed -/

/-- R82: a payload of 65536 bytes has no encoding. -/
theorem test_wellFormed_refuses_long_payload :
    Instr.wellFormed Widths.source (.twiWrite (List.replicate 65536 0#8)) = false := by
  rw [Instr.wellFormed, payloadFits, List.length_replicate]; decide

/-- R82: a payload of 65535 bytes has one. -/
theorem test_wellFormed_accepts_longest_payload :
    Instr.wellFormed Widths.source (.twiWrite (List.replicate 65535 0#8)) = true := by
  rw [Instr.wellFormed, payloadFits, List.length_replicate]; decide

/-- Section 0 of 95_test_vectors.md: every descriptor of `TESTCFG` is well formed, none overlap. -/
theorem test_testcfg_wellFormed : Config.testcfg.wf = true := by decide

/-- R41: a mask bit that no declared Bit can write is refused. -/
theorem test_descriptor_mask_without_bit :
    RegDesc.wf { Config.testR0 with mask := 0x001F } = false := by decide

/-- R41: a writable Bit outside the mask is refused. -/
theorem test_descriptor_bit_outside_mask :
    RegDesc.wf { Config.testR0 with mask := 0x0007 } = false := by decide

/-- R40: one declaration for each bit of the width. -/
theorem test_descriptor_wrong_length :
    RegDesc.wf { Config.testR2 with width := .w8 } = false := by decide

/-- R42: a write-only bit is `HwDriven`. -/
theorem test_descriptor_writeOnly_storage :
    RegDesc.wf { Config.testR0 with
      bits := .declared .wo .storage :: Config.testR0.bits.tail } = false := by decide

/-- R42: a read-only bit is not `Storage`. -/
theorem test_descriptor_readOnly_storage :
    RegDesc.wf { Config.testR1 with
      bits := Config.testR1.bits.take 7 ++ [.declared .ro .storage] } = false := by decide

/-- R61: two descriptors that share an address are refused, the second byte of a 16-bit one too. -/
theorem test_config_overlap :
    Config.wf { Config.testcfg with
      regTable := [Config.testR2, { Config.testR0 with addr := 0x43 }] } = false := by decide

/-- R36: a pin id past `N_PORTS` names no pin. -/
theorem test_wellFormed_refuses_no_pin :
    Instr.wellFormed Widths.source (.pinRead ⟨3, 0⟩) = false ∧
    Instr.wellFormed { Widths.source with nPorts := 4 } (.pinRead ⟨3, 0⟩) = true := by decide

/-- R7: each width is bounded by the field that carries it. -/
theorem test_widths_bounds :
    Widths.wf Widths.source = true ∧ Widths.wf { Widths.source with addrBits := 8 } = false ∧
    Widths.wf { Widths.source with tickBits := 17 } = false ∧
    Widths.wf { Widths.source with nPorts := 5 } = false ∧
    Widths.wf { Widths.source with portPins := 9 } = false := by decide

/-- R8: the bus lines are pins, `SLA_RESET` fits `ADDR_BITS`, `BTN_LAST_RESET` fits `TICK_BITS`. -/
theorem test_config_values :
    Config.valuesWf { Config.testcfg with nPorts := 1 } = false ∧
    Config.valuesWf { Config.testcfg with slaReset := 0x80#8 } = false ∧
    Config.valuesWf { Config.testcfg with tickBits := 8, btnLastReset := 0x100#16 } = false := by decide

/-- R7: a width that the machine does not have is refused. -/
theorem test_config_regWidths :
    Config.tableWf { Config.testcfg with regWidths := [.w8] } = false := by decide

/-- R8: `MAX_BUTTONS` is at most 256. -/
theorem test_config_buttons : Config.wf { Config.testcfg with maxButtons := 257 } = false := by decide

/-! ## Decoding: one word of every row (95_test_vectors.md L2, L3) -/

theorem test_decode_regSetRaw :
    decodeTableWord 48 0x01020000BEEF = some (.regSetRaw 2#8 0xBEEF#16) := by decide
theorem test_decode_regGet : decodeTableWord 48 0x020300000000 = some (.regGet 3#8) := by decide
theorem test_decode_regSetBits :
    decodeTableWord 48 0x030100000080 = some (.regSetBits 1#8 0x80#16) := by decide
theorem test_decode_regClearBits :
    decodeTableWord 48 0x040200008010 = some (.regClearBits 2#8 0x8010#16) := by decide
theorem test_decode_regReadBits :
    decodeTableWord 48 0x050100000002 = some (.regReadBits 1#8 2#16) := by decide
theorem test_decode_pinConfigure :
    decodeTableWord 48 0x101400000002 = some (.pinConfigure ⟨2, 4⟩ .inputPullup) := by decide
theorem test_decode_pinSetHigh :
    decodeTableWord 48 0x110500000000 = some (.pinSetHigh ⟨0, 5⟩) := by decide
theorem test_decode_pinSetLow :
    decodeTableWord 48 0x120500000000 = some (.pinSetLow ⟨0, 5⟩) := by decide
theorem test_decode_pinToggle :
    decodeTableWord 48 0x130500000000 = some (.pinToggle ⟨0, 5⟩) := by decide
theorem test_decode_pinRead : decodeTableWord 48 0x140C00000000 = some (.pinRead ⟨1, 4⟩) := by decide
theorem test_decode_clkInit : decodeTableWord 48 0x200000000000 = some .clkInit := by decide
theorem test_decode_clkNow : decodeTableWord 48 0x210000000000 = some .clkNow := by decide
theorem test_decode_instantElapsed :
    decodeTableWord 48 0x2200FFFB0005 = some (.instantElapsed 5#16 0xFFFB#16) := by decide
theorem test_decode_clkDrop : decodeTableWord 48 0x230000000000 = some .clkDrop := by decide
theorem test_decode_twiInit : decodeTableWord 48 0x300000000000 = some .twiInit := by decide
theorem test_decode_twiSetAddress :
    decodeTableWord 48 0x310000000080 = some (.twiSetAddress 0x80#8) := by decide
theorem test_decode_twiWrite :
    decodeRequest Widths.source ⟨0x320000000002#48, [0x00#8, 0xAF#8]⟩ = .ok (.twiWrite [0x00#8, 0xAF#8]) := by decide
theorem test_decode_twiDrop : decodeTableWord 48 0x330000000000 = some .twiDrop := by decide
theorem test_decode_btnNew : decodeTableWord 48 0x401400000000 = some (.btnNew ⟨2, 4⟩) := by decide
theorem test_decode_btnUpdate :
    decodeTableWord 48 0x410100000012 = some (.btnUpdate 1#8 0x12#16) := by decide
theorem test_decode_btnWasPressed :
    decodeTableWord 48 0x420000000000 = some (.btnWasPressed 0#8) := by decide
theorem test_decode_csEnter : decodeTableWord 48 0x500000000000 = some .csEnter := by decide
theorem test_decode_csExit : decodeTableWord 48 0x510000000001 = some (.csExit true) := by decide
theorem test_decode_intEnable : decodeTableWord 48 0x520000000000 = some .intEnable := by decide
theorem test_decode_intDisable : decodeTableWord 48 0x530000000000 = some .intDisable := by decide
/-- R89. -/
theorem test_decode_events :
    decodeTableWord 8 0xF0 = some .irqTimer ∧ decodeTableWord 8 0xF1 = some .irqTwi := by decide
/-- R92, R93: one word of each class; the low three bits do not matter. -/
theorem test_decode_statuses :
    decodeTableWord 8 0x08 = some .twiStatusStart ∧ decodeTableWord 8 0x17 = some .twiStatusRepStart ∧
    decodeTableWord 8 0x18 = some .twiStatusSlaAck ∧ decodeTableWord 8 0x28 = some .twiStatusDataAck ∧
    decodeTableWord 8 0x20 = some .twiStatusSlaNack ∧ decodeTableWord 8 0x30 = some .twiStatusDataNack ∧
    decodeTableWord 8 0x38 = some .twiStatusArbLost ∧ decodeTableWord 8 0x00 = some .twiStatusBusError ∧
    decodeTableWord 8 0xF8 = some .twiStatusOther := by decide

/-- ENC-1 to ENC-3: unassigned opcodes, event ids among them. -/
theorem test_decode_illegal :
    decodeRequest Widths.source (word 0x000000000000#48) = .error .illegalOpcode ∧
    decodeRequest Widths.source (word 0xF00000000000#48) = .error .illegalOpcode ∧
    decodeRequest Widths.source (word 0x060000000000#48) = .error .illegalOpcode ∧
    decodeRequest Widths.source (word 0x540000000000#48) = .error .illegalOpcode := by decide

/-- ENC-4, PIN-17, CLK-14, TWI-10, IC-3. -/
theorem test_decode_reserved :
    decodeRequest Widths.source (word 0x020900010000#48) = .error .reservedField ∧
    decodeRequest Widths.source (word 0x100000000004#48) = .error .reservedField ∧
    decodeRequest Widths.source (word 0x220100000000#48) = .error .reservedField ∧
    decodeRequest Widths.source (word 0x310000000100#48) = .error .reservedField ∧
    decodeRequest Widths.source (word 0x510000000002#48) = .error .reservedField := by decide

/-- ENC-5, TWI-11. -/
theorem test_decode_payload :
    decodeRequest Widths.source ⟨0x520000000000#48, [0#8]⟩ = .error .badPayload ∧
    decodeRequest Widths.source ⟨0x320000000002#48, [0#8]⟩ = .error .badPayload := by decide

/-- ENC-6, PIN-14, PIN-15, PIN-16. -/
theorem test_decode_pin :
    decodeRequest Widths.source (word 0x101800000003#48) = .error .badSelector ∧
    decodeRequest Widths.source (word 0x101800000000#48) = .error .badSelector ∧
    decodeRequest Widths.source (word 0x142000000000#48) = .error .badSelector ∧
    decodeRequest Widths.source (word 0x100000000003#48) = .error .badMode := by decide

/-! ## Registers (95_test_vectors.md L2.REG) -/

/-- REG-1. -/
theorem test_regSetRaw_masks :
    leaves (exec (.regSetRaw 0#8 0xA3#16) State.reset) (fun t =>
      t.stored Config.testR0 == 0x03#16 && lastResponse t == some ⟨.ok, 0#16⟩) = true := by decide

/-- REG-4: little-endian bytes (R64). -/
theorem test_regSetRaw_wide :
    leaves (exec (.regSetRaw 2#8 0xBEEF#16) State.reset) (fun t =>
      t.mem == [(0x42, 0xEF#8), (0x43, 0xBE#8)]) = true := by decide

/-- REG-2. -/
theorem test_regGet :
    leaves (exec (.regGet 0#8) (withR0 3#8)) (fun t => lastResponse t == some ⟨.ok, 3#16⟩) = true := by
  decide

/-- REG-5. -/
theorem test_regSetBits_holds :
    leaves (exec (.regSetBits 0#8 4#16) (withR0 3#8)) (fun t =>
      t.core.fg == .rmwWrite 0#8 7#16 && t.stored Config.testR0 == 3#16 &&
      lastResponse t == none) = true := by decide

/-- REG-6. -/
theorem test_regClearBits_holds :
    leaves (exec (.regClearBits 0#8 1#16) (withR0 7#8)) (fun t =>
      t.core.fg == .rmwWrite 0#8 6#16) = true := by decide

/-- REG-8. -/
theorem test_regReadBits :
    leaves (exec (.regReadBits 0#8 6#16) (withR0 5#8)) (fun t =>
      lastResponse t == some ⟨.ok, 4#16⟩) = true := by decide

/-- ENC-7: `OwnedRegister` before `ValueWidth`. -/
theorem test_regSetRaw_owned :
    leaves (exec (.regSetRaw 3#8 0x1FF#16) State.reset) (fun t =>
      t.core.refusal == some .ownedRegister) = true := by decide

/-- ENC-8: `BadBitSet` before `Capability`. -/
theorem test_regSetBits_badBitSet :
    leaves (exec (.regSetBits 1#8 0x84#16) State.reset) (fun t =>
      t.core.refusal == some .badBitSet) = true := by decide

/-- REG-12. -/
theorem test_regReadBits_capability :
    leaves (exec (.regReadBits 1#8 2#16) State.reset) (fun t =>
      t.core.refusal == some .capability) = true := by decide

/-! ## Pins (95_test_vectors.md L2.PIN) -/

/-- PIN-4. -/
theorem test_pinConfigure :
    leaves (exec (.pinConfigure ⟨2, 4⟩ .inputPullup) State.reset) (fun t =>
      t.pin ⟨2, 4⟩ == ⟨.inputPullup, true, .float⟩) = true := by decide

/-- PIN-9. -/
theorem test_pinSetHigh :
    leaves (exec (.pinSetHigh ⟨0, 5⟩) (withPin ⟨0, 5⟩ ⟨.output, false, .float⟩)) (fun t =>
      (t.pin ⟨0, 5⟩).latch) = true := by decide

/-- PIN-11. -/
theorem test_pinSetLow :
    leaves (exec (.pinSetLow ⟨0, 5⟩) (withPin ⟨0, 5⟩ ⟨.output, true, .float⟩)) (fun t =>
      !(t.pin ⟨0, 5⟩).latch) = true := by decide

/-- PIN-10. -/
theorem test_pinToggle :
    leaves (exec (.pinToggle ⟨0, 5⟩) (withPin ⟨0, 5⟩ ⟨.output, true, .float⟩)) (fun t =>
      !(t.pin ⟨0, 5⟩).latch) = true := by decide

/-- PIN-6: an input that reads low although its latch is 1. -/
theorem test_pinRead_pullup_low :
    leaves (exec (.pinRead ⟨2, 4⟩) (withPin ⟨2, 4⟩ ⟨.inputPullup, true, .low⟩)) (fun t =>
      lastResponse t == some ⟨.ok, 0#16⟩) = true := by decide

/-- PIN-2. -/
theorem test_pinRead_high :
    leaves (exec (.pinRead ⟨2, 4⟩) (withPin ⟨2, 4⟩ ⟨.input, false, .high⟩)) (fun t =>
      lastResponse t == some ⟨.ok, 1#16⟩) = true := by decide

/-! ## The Clock (95_test_vectors.md L2.CLK) -/

/-- CLK-17: a pending match is cleared, the tick stays. -/
theorem test_clkInit :
    leaves (exec .clkInit { State.reset with
        clock := { flag := false, tick := 9#16, timEn := false, timIe := false, timPend := true } })
      (fun t => t.clock == { flag := true, tick := 9#16, timEn := true, timIe := true,
                             timPend := false }) = true := by decide

/-- CLK-5. -/
theorem test_clkNow :
    leaves (exec .clkNow (withClock State.reset 0xFFFF#16 false true)) (fun t =>
      t.core.ie && lastResponse t == some ⟨.ok, 0xFFFF#16⟩) = true := by decide

/-- CLK-10. -/
theorem test_instantElapsed :
    leaves (exec (.instantElapsed 0x0003#16 0xFFFD#16) State.reset) (fun t =>
      lastResponse t == some ⟨.ok, 6#16⟩) = true := by decide

/-- CLK-15. -/
theorem test_clkDrop :
    leaves (exec .clkDrop (withClock State.reset 9#16 true false)) (fun t =>
      t.clock == { flag := false, tick := 9#16, timEn := false, timIe := false, timPend := true })
      = true := by decide

/-- CLK-7. -/
theorem test_irqTimer_wraps :
    leaves (exec .irqTimer (withClock State.reset 0xFFFF#16 true true)) (fun t =>
      t.clock.tick == 0#16 && !t.clock.timPend && t.core.ie) = true := by decide

/-- R7: a tick counter of 8 bits wraps at 256. -/
theorem test_irqTimer_wraps_at_tickBits :
    leaves (exec .irqTimer
        { withClock State.reset 0xFF#16 true true with cfg := { Config.testcfg with tickBits := 8 } })
      (fun t => t.clock.tick == 0#16) = true := by decide

/-- CLK-8. -/
theorem test_irqTimer_masked :
    leaves (exec .irqTimer (withClock State.reset 0xFFFF#16 true false)) (fun t =>
      t == withClock State.reset 0xFFFF#16 true false) = true := by decide

/-! ## The driver (95_test_vectors.md L2.TWI, L3.P2) -/

/-- TWI-4. -/
theorem test_twiInit :
    leaves (exec .twiInit State.reset) (fun t =>
      t.drv.flag && t.drv.state == .ready && t.per.en && t.per.ea && !t.per.ie &&
      t.per.rate == 100000 && t.pin ⟨1, 4⟩ == ⟨.inputPullup, true, .float⟩ &&
      t.pin ⟨1, 5⟩ == ⟨.inputPullup, true, .float⟩ && t.pin ⟨1, 6⟩ == State.reset.pin ⟨1, 6⟩)
      = true := by decide

/-- TWI-7. -/
theorem test_twiSetAddress :
    leaves (exec (.twiSetAddress 0x7F#8) (withDriver State.reset true)) (fun t =>
      t.drv.sla == 0xFE#8) = true := by decide

/-- TWI-9. -/
theorem test_twiSetAddress_invalid :
    leaves (exec (.twiSetAddress 0x80#8) (withDriver State.reset true)) (fun t =>
      t.drv.sla == 0x78#8 && lastResponse t == some ⟨.invalidAddress, 0#16⟩) = true := by decide

/-- TWI-12. -/
theorem test_twiWrite_issue :
    leaves (exec (.twiWrite [0x00#8, 0xAF#8]) (withDriver State.reset true)) (fun t =>
      t.drv.buf.take 2 == [0x00#8, 0xAF#8] && t.drv.wr == 2 && t.drv.state == .transmitting &&
      t.per.ie && t.per.out == .start && t.trace == [.start] && t.core.fg == .twiWait &&
      t.core.next == 0) = true := by decide

/-- L3.P3 request 5: 33 bytes. -/
theorem test_twiWrite_tooLong :
    leaves (exec (.twiWrite (List.replicate 33 1#8)) (withDriver State.reset true)) (fun t =>
      lastResponse t == some ⟨.bufferLenError, 0#16⟩ && t.trace == []) = true := by decide

/-- TWI-16. -/
theorem test_twiDrop :
    leaves (exec .twiDrop (withDriver State.reset true)) (fun t =>
      !t.drv.flag && t.drv.state == .uninitialized && t.drv.sla == 0x78#8 && !t.per.en) = true := by
  decide

/-- TWI-14: the return step. -/
theorem test_twiWrite_return :
    leaves (awaitWrite { inFlight State.reset .dataNack 1 true with
        drv := { State.reset.drv with flag := true, state := .ready, err := .sendDataNack } })
      (fun t => lastResponse t == some ⟨.sendDataNack, 0#16⟩ && t.core.fg == .idle &&
        t.core.next == 1) = true := by decide

/-- L3.P2, run 1. -/
theorem test_irqTwi_start :
    leaves (exec .irqTwi (inFlight State.reset .start 0 true)) (fun t =>
      t.trace == [.byte 0x78#8] && !t.per.int && t.core.ie && t.drv.state == .transmitting)
      = true := by decide

/-- INT-3: not enabled while `S.p_ie = 0`. -/
theorem test_irqTwi_masked :
    leaves (exec .irqTwi { withDriver State.reset true with
        per := { State.reset.per with en := true, int := true } }) (fun t => t.per.int) = true := by decide

/-- R158. -/
theorem test_status_start :
    leaves (exec .twiStatusStart (inFlight State.reset .start 0 true)) (fun t =>
      t.trace == [.byte 0x78#8] && t.per.out == .send) = true := by decide
theorem test_status_repStart :
    leaves (exec .twiStatusRepStart (inFlight State.reset .repStart 0 true)) (fun t =>
      t.trace == [.byte 0x78#8] && t.per.ea) = true := by decide
/-- L3.P2, run 2. -/
theorem test_status_slaAck :
    leaves (exec .twiStatusSlaAck (inFlight State.reset .slaAck 0 true)) (fun t =>
      t.trace == [.byte 0x00#8] && t.drv.rd == 1) = true := by decide
/-- L3.P2, run 3. -/
theorem test_status_dataAck :
    leaves (exec .twiStatusDataAck (inFlight State.reset .dataAck 1 true)) (fun t =>
      t.trace == [.byte 0xAF#8] && t.drv.rd == 2) = true := by decide
/-- L3.P2, run 4. -/
theorem test_status_dataAck_last :
    leaves (exec .twiStatusDataAck (inFlight State.reset .dataAck 2 true)) (fun t =>
      t.trace == [.stop] && t.drv.state == .ready && t.drv.err == .none) = true := by decide
/-- R160. -/
theorem test_status_slaNack :
    leaves (exec .twiStatusSlaNack (inFlight State.reset .slaNack 0 true)) (fun t =>
      t.trace == [.stop] && t.drv.state == .ready && t.drv.err == .sendAddressNack) = true := by decide
/-- R161. -/
theorem test_status_dataNack :
    leaves (exec .twiStatusDataNack (inFlight State.reset .dataNack 1 true)) (fun t =>
      t.trace == [.stop] && t.drv.err == .sendDataNack && t.drv.rd == 1) = true := by decide
/-- R162. -/
theorem test_status_arbLost :
    leaves (exec .twiStatusArbLost (inFlight State.reset .arbLost 1 true)) (fun t =>
      t.trace == [.release] && t.drv.err == .arbitrationLost) = true := by decide
/-- R163. -/
theorem test_status_busError :
    leaves (exec .twiStatusBusError (inFlight State.reset .busError 1 true)) (fun t =>
      t.trace == [.stop] && t.drv.err == .busError) = true := by decide
/-- R164: the state is not handed back. -/
theorem test_status_other :
    leaves (exec .twiStatusOther (inFlight State.reset .other 1 true)) (fun t =>
      t.trace == [] && !t.per.ea && t.per.out == .noack && t.drv.state == .transmitting) = true := by
  decide

/-! ## Buttons (95_test_vectors.md L2.BTN) -/

/-- BTN-1. -/
theorem test_btnNew :
    leaves (exec (.btnNew ⟨2, 4⟩) State.reset) (fun t =>
      t.btns == [button false false 0#16] && (t.pin ⟨2, 4⟩).latch &&
      lastResponse t == some ⟨.ok, 0#16⟩) = true := by decide

/-- BTN-9: across the wrap. -/
theorem test_btnUpdate_press :
    leaves (exec (.btnUpdate 0#8 1#16) (withButton (button false false 0xFFFF#16) .low)) (fun t =>
      t.btns == [button true true 1#16] && lastResponse t == some ⟨.ok, 1#16⟩) = true := by decide

/-- BTN-7: a release is not debounced. -/
theorem test_btnUpdate_release :
    leaves (exec (.btnUpdate 0#8 0x12#16) (withButton (button true true 0x12#16) .high)) (fun t =>
      t.btns == [button false true 0x12#16]) = true := by decide

/-- BTN-5 and BTN-7: a press that was accepted, and a release. -/
theorem test_btnWasPressed :
    leaves (exec (.btnWasPressed 0#8) (withButton (button true true 0#16) .low)) (fun t =>
      lastResponse t == some ⟨.ok, 1#16⟩) = true ∧
    leaves (exec (.btnWasPressed 0#8) (withButton (button false true 0#16) .low)) (fun t =>
      lastResponse t == some ⟨.ok, 0#16⟩) = true := by decide

/-! ## Interrupt control (95_test_vectors.md L2.IC) -/

/-- IC-2. -/
theorem test_csEnter :
    leaves (exec .csEnter (withClock State.reset 0#16 false true)) (fun t =>
      !t.core.ie && lastResponse t == some ⟨.ok, 1#16⟩) = true := by decide
theorem test_csExit :
    leaves (exec (.csExit true) State.reset) (fun t => t.core.ie) = true ∧
    leaves (exec (.csExit false) State.reset) (fun t => !t.core.ie) = true := by decide
/-- IC-4. -/
theorem test_intEnable : leaves (exec .intEnable State.reset) (fun t => t.core.ie) = true := by decide
/-- IC-5. -/
theorem test_intDisable :
    leaves (exec .intDisable (withClock State.reset 0#16 false true)) (fun t => !t.core.ie) = true := by
  decide

/-! ## The step -/

/-- A placed word runs at once from reset. -/
theorem test_step_runs_placed_word :
    leaves (step (State.reset.withFetchWord 48 0x200000000000)) (fun t => t.clock.flag) = true := by decide

/-- A placed event and a placed status word are taken at once from reset. -/
theorem test_step_takes_placed_event :
    leaves (step (State.reset.withFetchWord 8 0xF0)) (fun t => t.clock.tick == 1#16) = true ∧
    leaves (step (State.reset.withFetchWord 8 0x38)) (fun t =>
      t.drv.err == .arbitrationLost && t.core.ie) = true := by decide

/-- INT-5: after a refusal no agent steps. -/
theorem test_step_after_refusal :
    (match step (State.reset.refuse .pinMode) with
      | .fault .runEnded => true
      | _ => false) = true := by decide

/-- R95: the two lines of `TWI_SEND`. -/
theorem test_pseudo_twiSend :
    (Pseudo.twiSend 0x50#8 [0x11#8]).expand 2 =
      [⟨.twiSetAddress 0x50#8, none, none, none⟩, ⟨.twiWrite [0x11#8], none, none, some 2⟩] := by decide

/-- R94: `@k` is the data of an earlier response (95_test_vectors.md L3.P1, request 4). -/
theorem test_at_operand :
    (AsmLine.form ⟨.instantElapsed 0#16 0#16, some 1, some 0, none⟩
      [⟨.ok, 3#16⟩, ⟨.ok, 5#16⟩]) = some ⟨0x220000030005#48, []⟩ := by decide

/-! ## Witnesses: states and operands that meet a statement's hypotheses

Each is named after the statement of Sys2Proof/Certificates/Slice0/Obligations.lean it serves. -/

/-- The next state of an answer, or the state given. -/
def nextOf (s : State) (r : Result) : State :=
  match r with
  | .next t => t
  | .fault _ => s
  | .refused _ => s

/-- The request `TWI_WRITE payload`. -/
def writeRequest (payload : List Byte) : Request :=
  ⟨requestWord 0x32#8 0#8 0#16 (BitVec.ofNat 16 payload.length), payload⟩

/-- The foreground is about to issue `TWI_WRITE payload`; the status words are to be reported. -/
def writeRun (payload words : List Byte) : State :=
  withDriver (atTurns (transaction words) [writeRequest payload]) true

/-- A `TWI_WRITE` in flight and the turn to come. -/
def inFlightAt (t : Turn) (ie : Bool) : State := inFlight (atTurns [t] []) .start 0 ie

theorem witness_DecodeOfEncodeIsIdentity :
    Instr.wellFormed Widths.source (.twiWrite (List.replicate 65535 0#8)) = true :=
  test_wellFormed_accepts_longest_payload

/-- The last pin and the last mode. -/
theorem witness_EncodeOfDecodedRequestIsTheRequest :
    decodeRequest Widths.source (word 0x101700000002#48) = .ok (.pinConfigure ⟨2, 7⟩ .inputPullup) := by decide

/-- Both sides: the opcode past the last one, and the last one. -/
theorem witness_UnassignedOpcodesAreIllegal :
    (opField 0x540000000000#48).toNat ∉ assignedOpcodes ∧
    (opField 0x530000000000#48).toNat ∈ assignedOpcodes := by decide

/-- Both sides: a reserved bit that is 1, and none. -/
theorem witness_NonzeroReservedFieldIsRefused :
    (opField 0x510000000002#48).toNat ∈ assignedOpcodes ∧
    0x510000000002#48 &&& zeroBits (opField 0x510000000002#48).toNat ≠ 0#48 ∧
    0x510000000001#48 &&& zeroBits (opField 0x510000000001#48).toNat = 0#48 := by decide

/-- Both sides, for `TWI_WRITE` and for another request. -/
theorem witness_PayloadOfWrongLengthIsRefused :
    (opField 0x320000000002#48).toNat ∈ assignedOpcodes ∧
    0x320000000002#48 &&& zeroBits (opField 0x320000000002#48).toNat = 0#48 ∧
    [0#8].length ≠ payloadLength 0x320000000002#48 ∧
    [0#8, 0#8].length = payloadLength 0x320000000002#48 ∧
    (opField 0x520000000000#48).toNat ∈ assignedOpcodes ∧
    0x520000000000#48 &&& zeroBits (opField 0x520000000000#48).toNat = 0#48 ∧
    [0#8].length ≠ payloadLength 0x520000000000#48 := by decide

/-- The selectors 24 and 23 with the source's widths, and mode 3; and each way to name no pin, with two
ports of four pins: `sel[7:5]`, the port, the bit. -/
theorem witness_PinSelectorAndModeAreChecked :
    (opField 0x101800000003#48).toNat ∈ pinOpcodes ∧
    0x101800000003#48 &&& zeroBits (opField 0x101800000003#48).toNat = 0#48 ∧
    24 ≤ (selField 0x101800000003#48).toNat ∧
    (opField 0x101700000003#48).toNat ∈ pinOpcodes ∧
    0x101700000003#48 &&& zeroBits (opField 0x101700000003#48).toNat = 0#48 ∧
    decodeRequest Widths.source (word 0x101700000003#48) ≠ .error .badSelector ∧
    aField 0x101700000003#48 = 3#16 ∧
    pinOfSel { nPorts := 2, portPins := 4 } 0x20#8 = none ∧
    pinOfSel { nPorts := 2, portPins := 4 } 0x10#8 = none ∧
    pinOfSel { nPorts := 2, portPins := 4 } 0x04#8 = none ∧
    pinOfSel { nPorts := 2, portPins := 4 } 0x0B#8 = some ⟨1, 3⟩ := by decide

/-- The three clauses. -/
theorem witness_StepRunsDecodedInstruction :
    (State.reset.core.refused = false ∧ State.reset.cfg.wf = true) ∧
    ((atTurns [.foreground] [word 0x200000000000#48]).turn = .foreground ∧
      (atTurns [.foreground] [word 0x200000000000#48]).core.fg = .idle ∧
      (atTurns [.foreground] [word 0x200000000000#48]).request = some (word 0x200000000000#48) ∧
      decodeRequest Widths.source (word 0x200000000000#48) = .ok .clkInit) ∧
    (atTurns [.takeTimer] []).turn = .takeTimer ∧ (atTurns [.takeTwi] []).turn = .takeTwi := by decide

/-- The four clauses, the shortest `nbits` of the first among them. -/
theorem witness_PlacedInstructionRunsNext :
    State.reset.cfg.wf = true ∧ State.reset.cfg.toWidths = Widths.source ∧ decodeTableWord 9 0x530000000000 = some .intDisable ∧
    decodeTableWord 8 0xF0 = some .irqTimer ∧ decodeTableWord 8 0xF1 = some .irqTwi ∧
    decodeTableWord 8 0xF8 = some .twiStatusOther := by decide

theorem witness_UndecodableRequestEndsTheRun :
    (atTurns [.foreground] [word 0#48]).core.refused = false ∧
    (atTurns [.foreground] [word 0#48]).cfg.wf = true ∧
    (atTurns [.foreground] [word 0#48]).turn = .foreground ∧
    (atTurns [.foreground] [word 0#48]).core.fg = .idle ∧
    (atTurns [.foreground] [word 0#48]).request = some (word 0#48) ∧
    decodeRequest Widths.source (word 0#48) = .error .illegalOpcode := by decide

theorem witness_RefusalChangesNothingElse :
    State.reset.core.refused = false ∧
    exec .clkNow State.reset = .next (State.reset.refuse .noInstance) ∧
    (State.reset.refuse .noInstance).core.refused = true := ⟨rfl, rfl, rfl⟩

theorem witness_NothingTraps : State.reset.core.refused = false ∧ State.reset.cfg.wf = true := by decide

theorem witness_ResetLeavesTheListedValues : Config.testcfg.wf = true := test_testcfg_wellFormed

theorem witness_ResetMeetsTheMachineInvariant : Config.testcfg.wf = true := test_testcfg_wellFormed

/-- The invariant holds with a `TWI_WRITE` in flight. -/
theorem inv_inFlight (t : Turn) (ie : Bool) : (inFlightAt t ie).Inv where
  cfgWf := test_testcfg_wellFormed
  memWf := rfl
  bufLength := rfl
  cursors := ⟨show (0 : Nat) ≤ 2 by decide, show (2 : Nat) ≤ 32 by decide⟩
  slaEven := show (0x78#8).getLsbD 0 = false by decide
  slaFits := show (0x78#8).toNat < 2 ^ (7 + 1) by decide
  instants := ⟨show (0#16).toNat < 2 ^ 16 by decide, fun b hb => nomatch (hb : b ∈ ([] : List Button))⟩
  noOtherPins := fun p _ => State.pin_reset Config.testcfg p
  flagState := ⟨fun _ => show TwiState.transmitting ≠ .uninitialized by decide, fun _ => rfl⟩
  perEn := rfl
  quiet := fun h => nomatch (h : true = false)
  waiting := fun _ => rfl
  waitLive := fun _ => show TwiState.transmitting ≠ .uninitialized by decide
  timer := ⟨rfl, rfl⟩
  buttons := ⟨List.nodup_nil, Nat.zero_le _⟩
  answered := rfl
  inProgram := ⟨show (0 : Nat) ≤ 1 by decide, fun _ => show (0 : Nat) < 1 by decide⟩
  rmwHeld := fun r v h => nomatch (h : FgPhase.twiWait = .rmwWrite r v)
  masked := by
    show ∀ d ∈ Config.testcfg.regTable, State.reset.stored d &&& ~~~d.mask = 0#16
    decide
  reason := rfl

theorem witness_EveryStepKeepsTheMachineInvariant :
    (inFlightAt .takeTwi true).Inv ∧ ∃ t, step (inFlightAt .takeTwi true) = .next t :=
  ⟨inv_inFlight _ _, _, rfl⟩

theorem witness_TwiStateMovesOnlyAsListed :
    (inFlightAt .takeTwi true).Inv ∧ ∃ t, step (inFlightAt .takeTwi true) = .next t :=
  witness_EveryStepKeepsTheMachineInvariant

theorem witness_HistoryOnlyGrows :
    ∃ t, step (atTurns [.foreground] [word 0x200000000000#48]) = .next t := ⟨_, rfl⟩

/-- A step that appends a symbol. -/
theorem witness_TraceIsNeverRead :
    ∃ t, step (inFlightAt .takeTwi true) = .next t ∧ t.trace = [.byte 0x78#8] := ⟨_, rfl, rfl⟩

/-- Both clauses. -/
theorem witness_ClkInitMakesTheClock :
    State.reset.clock.flag = false ∧ (withClock State.reset 0#16 false true).clock.flag = true := by
  decide

theorem witness_ClkNowAnswersTheTick :
    (withClock State.reset 0xFFFF#16 false true).clock.flag = true := rfl

theorem witness_ClkDropStopsTheTimer :
    (withClock State.reset 9#16 true false).clock.flag = true := rfl

/-- Both clauses. -/
theorem witness_TimerEventAddsOneTick :
    (withClock State.reset 0xFFFF#16 true true).mayTake .timer = true ∧
    (withClock State.reset 0xFFFF#16 true false).mayTake .timer = false := by decide

/-- Two readings with one timer handler run between them, the first at the end of the tick's range. -/
theorem witness_ElapsedTicksCountHandlerRuns :
    ∃ s t u v : State, exec .clkNow s = .next t ∧ Responded s t .ok 0xFFFF#16 ∧
      Host.Core.run Sys2Proof.core 2 t = .next u ∧ exec .clkNow u = .next v ∧
      Responded u v .ok 0#16 ∧ v.cfg = s.cfg ∧ timerRuns 2 t = 1 :=
  ⟨withClock (atTurns [.timerMatch, .takeTimer] []) 0xFFFF#16 false true, _, _, _, rfl, ⟨rfl, rfl⟩,
    rfl, rfl, ⟨rfl, rfl⟩, rfl, rfl⟩

/-- Both clauses. -/
theorem witness_TwiInitMakesTheDriver :
    State.reset.drv.flag = false ∧ (withDriver State.reset true).drv.flag = true := by decide

/-- Both clauses: the addresses 127 and 128. -/
theorem witness_TwiSetAddressStoresShifted :
    (withDriver State.reset true).drv.flag = true ∧
    (0x7F#8).toNat < 2 ^ (withDriver State.reset true).cfg.addrBits ∧
    2 ^ (withDriver State.reset true).cfg.addrBits ≤ (0x80#8).toNat := by decide

/-- The longest payload. -/
theorem witness_AcceptedWriteIssuesStart :
    (withDriver State.reset true).drv.flag = true ∧
    (withDriver State.reset true).drv.state = .ready ∧
    (List.replicate 32 0#8).length ≤ (withDriver State.reset true).cfg.bufCap := by decide

/-- Both clauses: a driver that is not Ready, and the shortest payload that is too long. -/
theorem witness_WritePreflightChecksHaveNoEffect :
    ((inFlightAt .foreground true).drv.flag = true ∧ (inFlightAt .foreground true).drv.state ≠ .ready) ∧
    ((withDriver State.reset true).drv.flag = true ∧
      (withDriver State.reset true).drv.state = .ready ∧
      (withDriver State.reset true).cfg.bufCap < (List.replicate 33 0#8).length) := by decide

/-- Both clauses. -/
theorem witness_WaitingWriteHoldsAndReturns :
    ((inFlightAt .foreground true).core.fg = .twiWait ∧
      (inFlightAt .foreground true).drv.state = .transmitting) ∧
    ((handBack (inFlightAt .foreground true)).core.fg = .twiWait ∧
      (handBack (inFlightAt .foreground true)).drv.state = .ready) := by decide

theorem witness_TwiDropReleasesTheDriver : (withDriver State.reset true).drv.flag = true := rfl

theorem witness_RequestsWithoutInstanceAreRefused :
    State.reset.clock.flag = false ∧ State.reset.drv.flag = false := by decide

/-- Both clauses: the last byte of the FIFO, and the empty FIFO. -/
theorem witness_AcknowledgedBranches :
    ((inFlight State.reset .slaAck 1 true).drv.rd < (inFlight State.reset .slaAck 1 true).drv.wr ∧
      (inFlight State.reset .slaAck 1 true).drv.buf[(inFlight State.reset .slaAck 1 true).drv.rd]? =
        some 0xAF#8) ∧
    (inFlight State.reset .slaAck 2 true).drv.wr ≤ (inFlight State.reset .slaAck 2 true).drv.rd := by
  decide

theorem witness_FailureBranches :
    (Instr.twiStatusArbLost, TwiError.arbitrationLost, BusSymbol.release, LastCommand.release) ∈
      [(Instr.twiStatusSlaNack, TwiError.sendAddressNack, BusSymbol.stop, LastCommand.stop),
       (.twiStatusDataNack, .sendDataNack, .stop, .stop),
       (.twiStatusArbLost, .arbitrationLost, .release, .release),
       (.twiStatusBusError, .busError, .stop, .stop)] := by decide

/-- Both clauses. -/
theorem witness_TwiEventRunsTheBranchOfItsClass :
    (inFlightAt .takeTwi true).mayTake .twi = true ∧
    (inFlightAt .takeTwi false).mayTake .twi = false := by decide

/-- INT-2 of 95_test_vectors.md. -/
theorem witness_EventOrderDoesNotMatter :
    (withClock (inFlightAt .takeTwi true) 3#16 true true).cfg.irqPriority = .free ∧
    (withClock (inFlightAt .takeTwi true) 3#16 true true).timerReady = true ∧
    (withClock (inFlightAt .takeTwi true) 3#16 true true).twiReady = true := by decide

/-- Both clauses. -/
theorem witness_DriverRecordHasOneWriter :
    (((inFlightAt .timerMatch true).Inv ∧ ∃ t, step (inFlightAt .timerMatch true) = .next t) ∧
      (inFlightAt .timerMatch true).drv.state = .transmitting ∧
      (inFlightAt .timerMatch true).turn ≠ .takeTwi) ∧
    ((handBack (inFlightAt .timerMatch true)).Inv ∧
      (∃ t, step (handBack (inFlightAt .timerMatch true)) = .next t) ∧
      (handBack (inFlightAt .timerMatch true)).drv.state ≠ .transmitting ∧
      (handBack (inFlightAt .timerMatch true)).turn ≠ .foreground ∧
      (handBack (inFlightAt .timerMatch true)).turn ≠ .takeTwi) :=
  ⟨⟨⟨inv_inFlight _ _, _, rfl⟩, rfl, by decide⟩,
   ⟨{ inv_inFlight .timerMatch true with
        flagState := ⟨fun _ => by decide, fun _ => rfl⟩
        waiting := fun h => nomatch (h : TwiState.ready = .transmitting)
        waitLive := fun _ => by decide }, ⟨_, rfl⟩, by decide, by decide, by decide⟩⟩

/-- A step that issues a write. -/
theorem witness_OneStartPerAcceptedWrite :
    ∃ t, step (writeRun [0x01#8] [0x08#8]) = .next t ∧ t.core.fg = .twiWait ∧ t.trace = [.start] :=
  ⟨_, rfl, rfl, rfl⟩

theorem witness_WriteWithInterruptsOffHangs :
    (inFlightAt .takeTwi false).hung ∧
    ∃ t, Host.Core.run Sys2Proof.core 1 (inFlightAt .takeTwi false) = .next t :=
  ⟨⟨rfl, rfl, rfl⟩, _, rfl⟩

/-- The empty payload and the longest one. -/
theorem witness_AcknowledgedWriteSendsWholePayload :
    (WriteAboutToRun (writeRun [] [0x08#8, 0x18#8]) [] [0x08#8, 0x18#8] [] ∧
      [0x08#8, 0x18#8].map (classOfStatus Config.testcfg.statusMap) =
        [.start, .slaAck] ++ List.replicate ([] : List Byte).length .dataAck) ∧
    (WriteAboutToRun
        (writeRun (List.replicate 32 1#8) ([0x08#8, 0x18#8] ++ List.replicate 32 0x28#8))
        (List.replicate 32 1#8) ([0x08#8, 0x18#8] ++ List.replicate 32 0x28#8) [] ∧
      ([0x08#8, 0x18#8] ++ List.replicate 32 0x28#8).map (classOfStatus Config.testcfg.statusMap) =
        [.start, .slaAck] ++ List.replicate (List.replicate 32 1#8).length .dataAck) :=
  ⟨⟨⟨rfl, test_testcfg_wellFormed, rfl, rfl, rfl, rfl, rfl, rfl, by decide, ⟨_, rfl, by decide⟩, rfl⟩,
      by decide⟩,
   ⟨⟨rfl, test_testcfg_wellFormed, rfl, rfl, rfl, rfl, rfl, rfl, by decide, ⟨_, rfl, by decide⟩, rfl⟩,
      by decide⟩⟩

/-- The first byte, and the last byte of a payload of two. -/
theorem witness_FailedWriteSendsPrefix :
    (WriteAboutToRun (writeRun [1#8, 2#8] [0x08#8, 0x18#8, 0x30#8]) [1#8, 2#8]
        [0x08#8, 0x18#8, 0x30#8] [] ∧ 0 < [1#8, 2#8].length ∧
      [0x08#8, 0x18#8, 0x30#8].map (classOfStatus Config.testcfg.statusMap) =
        [.start, .slaAck] ++ List.replicate 0 .dataAck ++ [.dataNack]) ∧
    (WriteAboutToRun (writeRun [1#8, 2#8] [0x08#8, 0x18#8, 0x28#8, 0x38#8]) [1#8, 2#8]
        [0x08#8, 0x18#8, 0x28#8, 0x38#8] [] ∧ 1 < [1#8, 2#8].length ∧
      [0x08#8, 0x18#8, 0x28#8, 0x38#8].map (classOfStatus Config.testcfg.statusMap) =
        [.start, .slaAck] ++ List.replicate 1 .dataAck ++ [.arbLost]) :=
  ⟨⟨⟨rfl, test_testcfg_wellFormed, rfl, rfl, rfl, rfl, rfl, rfl, by decide, ⟨_, rfl, by decide⟩, rfl⟩,
      by decide, by decide⟩,
   ⟨⟨rfl, test_testcfg_wellFormed, rfl, rfl, rfl, rfl, rfl, rfl, by decide, ⟨_, rfl, by decide⟩, rfl⟩,
      by decide, by decide⟩⟩

/-- Both clauses. -/
theorem witness_WriteFailingBeforeDataSendsNoByte :
    (WriteAboutToRun (writeRun [1#8] [0x08#8, 0x20#8]) [1#8] [0x08#8, 0x20#8] [] ∧
      [0x08#8, 0x20#8].map (classOfStatus Config.testcfg.statusMap) = [.start, .slaNack]) ∧
    (WriteAboutToRun (writeRun [1#8] [0x00#8]) [1#8] [0x00#8] [] ∧
      StatusClass.busError ≠ .slaNack ∧
      [0x00#8].map (classOfStatus Config.testcfg.statusMap) = [.busError]) :=
  ⟨⟨⟨rfl, test_testcfg_wellFormed, rfl, rfl, rfl, rfl, rfl, rfl, by decide, ⟨_, rfl, by decide⟩, rfl⟩,
      by decide⟩,
   ⟨⟨rfl, test_testcfg_wellFormed, rfl, rfl, rfl, rfl, rfl, rfl, by decide, ⟨_, rfl, by decide⟩, rfl⟩,
      by decide, by decide⟩⟩

/-- The widest value an 8-bit register takes, and one a 16-bit register takes. Also for
`WriteMaskProperty`. -/
theorem witness_RegSetRawWritesUnderTheMask :
    (State.reset.desc 0#8 = some Config.testR0 ∧ Config.testR0.owner = .free ∧
      valueTooWide Config.testR0 0x00FF#16 = false ∧ Memory.wf State.reset.mem = true ∧
      Config.testR0.wf = true) ∧
    (State.reset.desc 2#8 = some Config.testR2 ∧ Config.testR2.owner = .free ∧
      valueTooWide Config.testR2 0xFFFF#16 = false ∧ Memory.wf State.reset.mem = true ∧
      Config.testR2.wf = true) := by decide

/-- The inner premises: r0 has only `Storage` bits under its mask and `Zero` outside. -/
theorem witness_WriteMaskProperty :
    (∀ i < 16, Config.testR0.mask.getLsbD i = true → (Config.testR0.decl i).kind = .storage) ∧
    (∀ i < 16, Config.testR0.mask.getLsbD i = false → (Config.testR0.decl i).kind = .zero) := by decide

/-- The outer premises, and those of the Bit-set clause. -/
theorem witness_RegisterReadsAnswerByReadKind :
    State.reset.desc 1#8 = some Config.testR1 ∧ Config.testR1.owner = .free ∧
    bitSetWf Config.testR1 0x0081#16 = true ∧
    (combinedCap Config.testR1 0x0081#16).readable = true := by decide

theorem witness_ReadModifyWriteHoldsTheNewValue :
    State.reset.desc 1#8 = some Config.testR1 ∧ Config.testR1.owner = .free ∧
    bitSetWf Config.testR1 0x0003#16 = true ∧
    (combinedCap Config.testR1 0x0003#16).writable = true := by decide

theorem witness_ReadModifyWriteWritesBack :
    (State.reset.setFg (.rmwWrite 2#8 0xFFFF#16)).core.fg = .rmwWrite 2#8 0xFFFF#16 ∧
    (State.reset.setFg (.rmwWrite 2#8 0xFFFF#16)).desc 2#8 = some Config.testR2 ∧
    Memory.wf (State.reset.setFg (.rmwWrite 2#8 0xFFFF#16)).mem = true ∧
    Config.testR2.wf = true := by decide

/-- Each clause at its boundary: the first id past the table, an owned register, the first value that
is too wide, the empty set, the first position past the width, an undeclared one, a member that is
not writable, a member that is not readable. -/
theorem witness_RegisterRequestsAreRefusedInOrder :
    State.reset.desc 4#8 = none ∧
    (State.reset.desc 3#8 = some Config.testR3 ∧ Config.testR3.owner ≠ .free) ∧
    (State.reset.desc 0#8 = some Config.testR0 ∧ Config.testR0.owner = .free ∧
      Config.testR0.width = .w8 ∧ 256 ≤ (0x0100#16).toNat) ∧
    ((0x0100#16).getLsbD 8 = true ∧ Config.testR0.width.bits ≤ 8) ∧
    ((0x0010#16).getLsbD 4 = true ∧ Config.testR0.decl 4 = .undeclared) ∧
    (State.reset.desc 1#8 = some Config.testR1 ∧ Config.testR1.owner = .free ∧
      bitSetWf Config.testR1 0x0080#16 = true ∧ (0x0080#16).getLsbD 7 = true ∧
      (Config.testR1.decl 7).writable = false) ∧
    (bitSetWf Config.testR1 0x0002#16 = true ∧ (0x0002#16).getLsbD 1 = true ∧
      (Config.testR1.decl 1).readable = false) := by decide

/-- Each clause: a set that is well formed and writable, one that is readable only, the empty one; one
register, two registers, a write-only and a read-only member. -/
theorem witness_CombinedBitSetIsMostRestrictive :
    (bitSetWf Config.testR0 0x000F#16 = true ∧
      combinedCap Config.testR0 0x000F#16 = ⟨true, true⟩) ∧
    combinedCap Config.testR1 0x0080#16 = ⟨true, false⟩ ∧ bitSetWf Config.testR0 0#16 = false ∧
    (BitSet.mk 1#8 1#16).reg = (BitSet.mk 1#8 0x80#16).reg ∧
    (BitSet.mk 0#8 1#16).reg ≠ (BitSet.mk 1#8 1#16).reg ∧
    (0x0082#16).getLsbD 1 = true ∧ Config.testR1.decl 1 = .declared .wo .hwDriven ∧
    (0x0082#16).getLsbD 7 = true ∧ Config.testR1.decl 7 = .declared .ro .hwDriven := by decide

/-- The bus line before `TWI_INIT`, and a pin beside it after. -/
theorem witness_PinConfigureSetsModeAndLatch :
    State.reset.ownsPin ⟨1, 4⟩ = false ∧ (withDriver State.reset true).ownsPin ⟨1, 3⟩ = false := by
  decide

theorem witness_PinWritesDriveTheLatch :
    ((withPin ⟨2, 7⟩ ⟨.output, true, .low⟩).pin ⟨2, 7⟩).mode = .output ∧
    (withPin ⟨2, 7⟩ ⟨.output, true, .low⟩).ownsPin ⟨2, 7⟩ = false ∧
    (Instr.pinToggle ⟨2, 7⟩, !((withPin ⟨2, 7⟩ ⟨.output, true, .low⟩).pin ⟨2, 7⟩).latch) ∈
      [(Instr.pinSetHigh ⟨2, 7⟩, true), (.pinSetLow ⟨2, 7⟩, false),
       (.pinToggle ⟨2, 7⟩, !((withPin ⟨2, 7⟩ ⟨.output, true, .low⟩).pin ⟨2, 7⟩).latch)] := by decide

/-- Each clause: a pin that is no output; an output that the driver owns. -/
theorem witness_PinWritesAreRefusedInOrder :
    (State.reset.pin ⟨0, 0⟩).mode ≠ .output ∧
    ((withDriver (withPin ⟨1, 4⟩ ⟨.output, true, .low⟩) true).drv.flag = true ∧
      PinId.mk 1 4 = (withDriver (withPin ⟨1, 4⟩ ⟨.output, true, .low⟩) true).cfg.sdaPin ∧
      ((withDriver (withPin ⟨1, 4⟩ ⟨.output, true, .low⟩) true).pin ⟨1, 4⟩).mode = .output) := by
  decide

/-- Each clause on the level read. -/
theorem witness_PinReadAnswersTheLevel :
    ((withPin ⟨0, 0⟩ ⟨.output, true, .low⟩).pin ⟨0, 0⟩).mode = .output ∧
    ((withPin ⟨0, 0⟩ ⟨.inputPullup, true, .low⟩).pin ⟨0, 0⟩).mode = .inputPullup ∧
    (withPin ⟨0, 0⟩ ⟨.input, false, .low⟩).pin ⟨0, 0⟩ = ⟨.input, false, .low⟩ ∧
    (withPin ⟨0, 0⟩ ⟨.input, false, .high⟩).pin ⟨0, 0⟩ = ⟨.input, false, .high⟩ ∧
    State.reset.pin ⟨0, 0⟩ = ⟨.input, false, .float⟩ := by decide

/-- Each clause: the last Button that fits, one too many, a pin with a Button, an owned pin. -/
theorem witness_BtnNewCreatesAButton :
    (State.resetOf { Config.testcfg with maxButtons := 1 }).nBtn < 1 ∧
    State.reset.ownsPin ⟨2, 4⟩ = false ∧
    (∀ b ∈ State.reset.btns, b.pin ≠ ⟨2, 4⟩) ∧
    (State.resetOf { Config.testcfg with maxButtons := 0 }).cfg.maxButtons ≤ 0 ∧
    (∃ b ∈ (withButton (button false false 0#16) .low).btns, b.pin = ⟨2, 4⟩) ∧
    (withDriver State.reset true).nBtn < (withDriver State.reset true).cfg.maxButtons ∧
    (∀ b ∈ (withDriver State.reset true).btns, b.pin ≠ ⟨1, 4⟩) ∧
    (withDriver State.reset true).ownsPin ⟨1, 4⟩ = true := by decide

/-- Each clause: a press at the threshold and one tick before it, a release, and a level that agrees
with the Button. -/
theorem witness_BtnUpdateDebouncesPressesOnly :
    ((withButton (button false false 0x10#16) .low).btns[(0#8).toNat]? =
        some (button false false 0x10#16) ∧
      (withButton (button false false 0x10#16) .low).readPin ⟨2, 4⟩ = false ∧
      (withButton (button false false 0x10#16) .low).cfg.debounceTicks ≤
        (0x12#16 - 0x10#16 : Instant).toNat % 2 ^ Config.testcfg.tickBits ∧
      (0x11#16 - 0x10#16 : Instant).toNat % 2 ^ Config.testcfg.tickBits <
        (withButton (button false false 0x10#16) .low).cfg.debounceTicks) ∧
    (withButton (button true false 0x10#16) .high).readPin ⟨2, 4⟩ = true ∧
    (withButton (button true false 0x10#16) .low).readPin ⟨2, 4⟩ = false := by decide

/-- Both clauses: a Button, and the first id past the last one. -/
theorem witness_BtnWasPressedAnswersTheLastUpdate :
    (withButton (button true true 0#16) .low).btns[(0#8).toNat]? = some (button true true 0#16) ∧
    (withButton (button true true 0#16) .low).nBtn ≤ (1#8).toNat := by decide

/-- Each clause, the last two with the peripheral off and with a report that pends. -/
theorem witness_EnvironmentStepsChangeOnlyTheirOwn :
    (atTurns [.timerMatch] []).turn = .timerMatch ∧
    ((withDriver (atTurns [.twiReport 0x08#8] []) true).turn = .twiReport 0x08#8 ∧
      (withDriver (atTurns [.twiReport 0x08#8] []) true).cfg.twiEnv = .unconstrained ∧
      (withDriver (atTurns [.twiReport 0x08#8] []) true).per.en = true ∧
      (withDriver (atTurns [.twiReport 0x08#8] []) true).per.int = false) ∧
    ((atTurns [.twiReport 0x08#8] []).turn = .twiReport 0x08#8 ∧
      (atTurns [.twiReport 0x08#8] []).per.en = false) ∧
    ((inFlightAt (.twiReport 0x08#8) true).turn = .twiReport 0x08#8 ∧
      (inFlightAt (.twiReport 0x08#8) true).per.int = true) ∧
    ((atTurns [.pinDrive ⟨2, 7⟩ .high] []).turn = .pinDrive ⟨2, 7⟩ .high ∧
      State.reset.cfg.hasPin ⟨2, 7⟩ = true) ∧
    ((atTurns [.pinDrive ⟨3, 0⟩ .high] []).turn = .pinDrive ⟨3, 0⟩ .high ∧
      State.reset.cfg.hasPin ⟨3, 0⟩ = false) ∧
    (State.reset.core.refused = false ∧ State.reset.cfg.wf = true) := by decide

/-- A conforming machine whose last command is START, with a report that its table lists (0x08,
`START`) and one that it does not (0x18, `SLA_ACK`). -/
def conformingAt (t : Byte) : State :=
  { withDriver (atTurns [.twiReport t] []) true with
    cfg := { Config.testcfg with twiEnv := .conforming }
    per := { State.reset.per with en := true, out := .start } }

theorem witness_ConformingReportsFollowTheTable :
    ((conformingAt 0x08#8).core.refused = false ∧ (conformingAt 0x08#8).cfg.wf = true ∧
      (conformingAt 0x08#8).cfg.twiEnv = .conforming ∧
      (conformingAt 0x08#8).turn = .twiReport 0x08#8 ∧ (conformingAt 0x08#8).per.en = true ∧
      (conformingAt 0x08#8).per.int = false) ∧
    (classOfStatus Config.testcfg.statusMap 0x08#8, BusPhase.addr) ∈ conformingRows .start .idle ∧
    (∀ ph ∈ [BusPhase.idle, .addr, .data],
      (classOfStatus Config.testcfg.statusMap 0x18#8, ph) ∉ conformingRows .start .idle) ∧
    leaves (step (conformingAt 0x08#8)) (fun t => t.per.int && t.per.phase == .addr) = true ∧
    leaves (step (conformingAt 0x18#8)) (fun t => !t.per.int) = true := by decide

end Sys2Proof.Tests
end

