-- ==== Sys2Proof/Proofs/Scope.lean ====
section
/-! PROOF. The frame of a request and of the timer event, what a step can do to the history of the
machine, and the statements of 00_scope.md that follow: the pin checks of the decoder, the step that
runs the decoded instruction, the tick arithmetic of the Clock, the address of the driver and the
debounce of a Button. -/

namespace Sys2Proof

/-! ## Pin selectors and modes in the decoder -/

/-- A check lets through exactly what passes it and what follows. -/
theorem checkThen_eq_ok_iff (ok : Bool) (e : RefuseReason) (k : Except RefuseReason Instr)
    (i : Instr) : checkThen ok e k = .ok i ↔ ok = true ∧ k = .ok i := by
  cases ok <;> simp [checkThen]

/-- A plain request decodes exactly when its reserved fields are 0 and its payload is empty. -/
theorem plainRequest_eq_ok_iff (zeros : Bool) (pl : List Byte) (k : Except RefuseReason Instr)
    (i : Instr) : plainRequest zeros pl k = .ok i ↔ zeros = true ∧ pl.isEmpty = true ∧ k = .ok i := by
  simp only [plainRequest, checkThen_eq_ok_iff]

/-- A plain request that passes items 2 and 3 of R87 goes on to the later items. -/
theorem plainRequest_of_checks {zeros : Bool} {pl : List Byte} (hz : zeros = true) (hpl : pl = [])
    (k : Except RefuseReason Instr) : plainRequest zeros pl k = k := by
  subst hz hpl; rfl

/-- A pin request decodes exactly when its selector names a pin and the rest of it decodes. -/
theorem withPin_eq_ok_iff (g : Widths) (sel : Byte) (k : PinId → Except RefuseReason Instr)
    (i : Instr) : withPin g sel k = .ok i ↔ ∃ p, pinOfSel g sel = some p ∧ k p = .ok i := by
  unfold withPin
  cases pinOfSel g sel <;> simp

/-- Where what follows the selector is never refused `BadSelector`, a pin request is refused so
exactly when its selector names no pin (R87 item 4). -/
theorem withPin_eq_badSelector_iff (g : Widths) (sel : Byte)
    {k : PinId → Except RefuseReason Instr} (hk : ∀ p, k p ≠ .error .badSelector) :
    withPin g sel k = .error .badSelector ↔ pinOfSel g sel = none := by
  unfold withPin
  cases pinOfSel g sel with
  | none => simp
  | some p => simpa using hk p

/-- The port and the bit of a selector's pin id as numbers (R90). -/
theorem pinIdOfSel_val (sel : Byte) :
    (pinIdOfSel sel).port.val = sel.toNat / 8 % 4 ∧ (pinIdOfSel sel).bit.val = sel.toNat % 8 := by
  simp [pinIdOfSel, Nat.shiftRight_eq_div_pow, PinId.portBits, PinId.pinBits]

/-- `sel[7:5]` is 0 exactly below 32. -/
theorem sel_high_bits_eq_zero_iff (sel : Byte) : sel.extractLsb' 5 3 = 0#3 ↔ sel.toNat < 32 := by
  have := sel.isLt
  simp only [BitVec.toNat_eq, BitVec.extractLsb'_toNat, Nat.shiftRight_eq_div_pow,
    BitVec.toNat_ofNat]
  omega

/-- The selectors that name no pin of the machine (R90). -/
theorem pinOfSel_eq_none_iff (g : Widths) (sel : Byte) :
    pinOfSel g sel = none ↔
      32 ≤ sel.toNat ∨ g.nPorts ≤ sel.toNat / 8 ∨ g.portPins ≤ sel.toNat % 8 := by
  obtain ⟨hport, hbit⟩ := pinIdOfSel_val sel
  simp only [pinOfSel, Widths.hasPin, hport, hbit, Bool.and_eq_true, decide_eq_true_eq,
    sel_high_bits_eq_zero_iff, ite_eq_right_iff, reduceCtorEq, imp_false]
  omega

/-- Mode code 3, and no other, names no mode (R90). -/
theorem modeOfCode_eq_none_iff (c : BitVec 2) : modeOfCode c = none ↔ c = 3#2 := by
  revert c; decide

/-- The operand `b` of a masked word. -/
theorem bField_and (w m : ReqWord) : bField (w &&& m) = bField w &&& bField m :=
  BitVec.extractLsb'_and

/-- The operand `a` of a masked word. -/
theorem aField_and (w m : ReqWord) : aField (w &&& m) = aField w &&& aField m :=
  BitVec.extractLsb'_and

/-- A request whose lower 32 bits must be 0, and are, has both operands 0. -/
theorem operands_eq_zero {w : ReqWord} (h : w &&& 0x0000FFFFFFFF#48 = 0#48) :
    bField w = 0#16 ∧ aField w = 0#16 := by
  have hb := congrArg bField h
  have ha := congrArg aField h
  rw [bField_and, show bField 0x0000FFFFFFFF#48 = BitVec.allOnes 16 by decide,
    BitVec.and_allOnes] at hb
  rw [aField_and, show aField 0x0000FFFFFFFF#48 = BitVec.allOnes 16 by decide,
    BitVec.and_allOnes] at ha
  exact ⟨hb, ha⟩

/-- A `PIN_CONFIGURE` whose reserved bits are 0 has operand `b` 0 and only mode bits in `a`. -/
theorem configure_operands {w : ReqWord} (h : w &&& 0x0000FFFFFFFC#48 = 0#48) :
    bField w = 0#16 ∧ (aField w).extractLsb' 2 14 = 0#14 := by
  have hb := congrArg bField h
  have ha := congrArg (fun v => (aField v).extractLsb' 2 14) h
  rw [bField_and, show bField 0x0000FFFFFFFC#48 = BitVec.allOnes 16 by decide,
    BitVec.and_allOnes] at hb
  simp only [aField_and, BitVec.extractLsb'_and] at ha
  rw [show (aField 0x0000FFFFFFFC#48).extractLsb' 2 14 = BitVec.allOnes 14 by decide,
    BitVec.and_allOnes] at ha
  exact ⟨hb, ha⟩

/-- With its upper 14 bits 0, an operand has mode code 3 exactly when it is 3. -/
theorem mode_bits_eq_three_iff {a : Half} (h : a.extractLsb' 2 14 = 0#14) :
    a.extractLsb' 0 2 = 3#2 ↔ a = 3#16 := by
  have := a.isLt
  simp only [BitVec.toNat_eq, BitVec.extractLsb'_toNat, Nat.shiftRight_eq_div_pow,
    BitVec.toNat_ofNat] at h ⊢
  omega

/-- What a pin request goes on with after its selector names a pin `p`: never `BadSelector`, and
`BadMode` exactly for a `PIN_CONFIGURE` with mode 3. -/
structure PinContinuation (q : Request) (k : PinId → Except RefuseReason Instr) : Prop where
  noBadSelector : ∀ p, k p ≠ .error .badSelector
  badMode : ∀ p, k p = .error .badMode ↔ opField q.word = 0x10#8 ∧ aField q.word = 3#16

/-- A pin request without operands goes on with its instruction. -/
theorem pinContinuation_ok {q : Request} (i : PinId → Instr) (h : opField q.word ≠ 0x10#8) :
    PinContinuation q fun p => .ok (i p) :=
  ⟨fun _ => by simp, fun _ => by simp [h]⟩

/-- `PIN_CONFIGURE` goes on with its mode. -/
theorem pinContinuation_configure {q : Request} (hop : opField q.word = 0x10#8)
    (ha : (aField q.word).extractLsb' 2 14 = 0#14) :
    PinContinuation q fun p =>
      match modeOfCode ((aField q.word).extractLsb' 0 2) with
      | none => .error .badMode
      | some mode => .ok (.pinConfigure p mode) := by
  have hmode := (modeOfCode_eq_none_iff _).trans (mode_bits_eq_three_iff ha)
  cases hm : modeOfCode ((aField q.word).extractLsb' 0 2) with
  | none => exact ⟨fun _ => by simp, fun _ => by simp [hop, hmode.1 hm]⟩
  | some mode =>
    have hne : aField q.word ≠ 3#16 := fun h => by simp [hmode.2 h] at hm
    exact ⟨fun _ => by simp, fun _ => by simp [hne]⟩

/-- A pin request that passes items 1 to 3 of R87 is decided by its selector, then by its mode. -/
theorem decodeRequest_pin (g : Widths) (q : Request)
    (hop : (opField q.word).toNat ∈ Machine.pinOpcodes)
    (hz : q.word &&& Machine.zeroBits (opField q.word).toNat = 0#48) (hpl : q.payload = []) :
    ∃ k, decodeRequest g q = withPin g (selField q.word) k ∧ PinContinuation q k := by
  have hcases : opField q.word = 0x10#8 ∨ opField q.word = 0x11#8 ∨ opField q.word = 0x12#8 ∨
      opField q.word = 0x13#8 ∨ opField q.word = 0x14#8 ∨ opField q.word = 0x40#8 := by
    simpa [Machine.pinOpcodes, BitVec.toNat_eq] using hop
  rcases hcases with h | h | h | h | h | h <;> rw [h] at hz <;> simp only [decodeRequest, h]
  · obtain ⟨hb, ha⟩ := configure_operands hz
    exact ⟨_, plainRequest_of_checks (by simp [hb, ha]) hpl _, pinContinuation_configure h ha⟩
  all_goals
    obtain ⟨hb, ha⟩ := operands_eq_zero hz
    exact ⟨_, plainRequest_of_checks (by simp [hb, ha]) hpl _, pinContinuation_ok _ (by simp [h])⟩

/-- Settles O7: the selector decides first, and only then the mode. -/
theorem pinSelectorAndModeAreChecked : Obligations.PinSelectorAndModeAreChecked := by
  intro g q hop hz hpl
  obtain ⟨k, hdec, hk⟩ := decodeRequest_pin g q hop hz hpl
  have hsel := (withPin_eq_badSelector_iff g (selField q.word) hk.noBadSelector).trans
    (pinOfSel_eq_none_iff g (selField q.word))
  rw [hdec]
  refine ⟨hsel, ?_, fun hne => ?_⟩
  · rintro rfl
    rw [hsel]
    simp only [Widths.source]
    omega
  · cases hp : pinOfSel g (selField q.word) with
    | none => exact absurd ((withPin_eq_badSelector_iff g _ hk.noBadSelector).2 hp) hne
    | some p => simpa [withPin, hp] using hk.badMode p

/-- No request decodes to the timer event, which only the Interrupt unit runs (R89). -/
theorem decodeRequest_ne_irqTimer (g : Widths) (q : Request) :
    decodeRequest g q ≠ .ok .irqTimer := by
  intro h
  unfold decodeRequest at h
  split at h
  case h_6 =>
    obtain ⟨-, -, h⟩ := (plainRequest_eq_ok_iff _ _ _ _).1 h
    obtain ⟨p, -, h⟩ := (withPin_eq_ok_iff _ _ _ _).1 h
    split at h <;> simp at h
  all_goals simp [plainRequest_eq_ok_iff, checkThen_eq_ok_iff, withPin_eq_ok_iff] at h

end Sys2Proof

namespace Sys2Proof.Machine

/-! ## Frames -/

/-- Agreement on a part carries over two changes. -/
theorem Part.agree_trans {p : Part} {s m t : State} (h₁ : p.agree s m) (h₂ : p.agree m t) :
    p.agree s t := by
  cases p
  case refused => exact ⟨h₂.1.trans h₁.1, h₂.2.trans h₁.2⟩
  case pins => exact fun i => (h₂ i).trans (h₁ i)
  case mem => exact fun a => (h₂ a).trans (h₁ a)
  all_goals exact Eq.trans h₂ h₁

/-- A frame may list more parts. -/
theorem UnchangedBut.mono {ps qs : List Part} {s t : State} (h : UnchangedBut ps s t)
    (hsub : ps ⊆ qs) : UnchangedBut qs s t :=
  fun p hp => h p fun hmem => hp (hsub hmem)

/-- Two changes together change at most what each does. -/
theorem UnchangedBut.trans {ps qs : List Part} {s m t : State} (h₁ : UnchangedBut ps s m)
    (h₂ : UnchangedBut qs m t) : UnchangedBut (ps ++ qs) s t := fun p hp =>
  Part.agree_trans (h₁ p fun h => hp (List.mem_append_left _ h))
    (h₂ p fun h => hp (List.mem_append_right _ h))

/-- A change followed by the end of the request. -/
theorem UnchangedBut.respond {ps : List Part} {s m : State} (h : UnchangedBut ps s m)
    (c : RespCode) (x : Half) : UnchangedBut (ps ++ [.next, .responses]) s (m.respond c x) :=
  h.trans (m.respond_frame c x)

/-- Choosing the turn changes the schedule and the count of turns alone. -/
theorem State.afterTurn_frame (s : State) : UnchangedBut [.schedule, .turns] s s.afterTurn := by
  intro p hp; cases p <;> simp_all [Part.agree, State.pin]

/-- Storing an address changes `S.sla` alone. -/
theorem sla_frame (s : State) (a : Byte) :
    UnchangedBut [.sla] s { s with drv := { s.drv with sla := a } } := by
  intro p hp; cases p <;> simp_all [Part.agree, State.pin]

/-- A draw and a new list of Buttons change those alone. -/
theorem btns_afterDraw_frame (s : State) (bs : List Button) :
    UnchangedBut [.btns, .draws] s { s.afterDraw with btns := bs } := by
  intro p hp; cases p <;> simp_all [Part.agree, State.pin]

/-! ## The step -/

/-- A machine that is live and admitted steps by the agent whose turn it is. -/
theorem step_eq_runTurn {s : State} (hr : s.core.refused = false) (hw : s.cfg.wf = true) :
    step s = runTurn s.turn s.afterTurn := by
  simp [step, agentStep, hr, hw]

/-- An idle foreground runs the request that it takes, if that decodes. -/
theorem foreground_of_decoded {s : State} {q : Request} {i : Instr} (hf : s.core.fg = .idle)
    (hq : s.request = some q) (hd : decodeRequest s.cfg.toWidths q = .ok i) :
    foreground s = exec i s := by
  simp only [foreground, hf, hq, takeRequest, hd]

/-- Settles O8: a live step is the step of the agent whose turn it is, and an idle foreground's step
is the meaning of the request that it decodes. -/
theorem stepRunsDecodedInstruction : Obligations.StepRunsDecodedInstruction := by
  intro s hr hw
  have hstep := step_eq_runTurn hr hw
  refine ⟨s.afterTurn_frame, fun q i ht hf hq hd => ?_, fun ht => ?_, fun ht => ?_⟩ <;>
    rw [hstep, ht]
  · exact foreground_of_decoded (s := s.afterTurn) hf hq hd
  · rfl
  · rfl

/-! ## What a step can do to the history

Every step but the taking of the timer event makes at most a silent change, which keeps the tick and
only appends to the trace, and then at most one response. -/

/-- From `s` to `t` no request ends, the configuration, the program and the tick stay, and the trace
is only appended to. -/
structure SilentChange (s t : State) : Prop where
  cfg : t.cfg = s.cfg
  caller : t.caller = s.caller
  next : t.core.next = s.core.next
  tick : t.clock.tick = s.clock.tick
  trace : ∃ l, t.trace = s.trace ++ l

/-- A silent change, and then at most one response. -/
def AtMostResponds (s : State) (r : Result) : Prop :=
  ∃ m, SilentChange s m ∧ (r = .next m ∨ ∃ c x, r = .next (m.respond c x))

/-- What a silent change keeps or appends to. -/
def State.history (s : State) : Config × Caller × Nat × Instant × List BusSymbol :=
  (s.cfg, s.caller, s.core.next, s.clock.tick, s.trace)

/-- A change that keeps the trace too is silent. -/
theorem SilentChange.of_history_eq {s t : State} (h : t.history = s.history) : SilentChange s t := by
  simp only [State.history, Prod.mk.injEq] at h
  obtain ⟨hcfg, hcaller, hnext, htick, htrace⟩ := h
  exact ⟨hcfg, hcaller, hnext, htick, [], by rw [htrace, List.append_nil]⟩

/-- No change is a silent change. -/
theorem SilentChange.refl (s : State) : SilentChange s s := .of_history_eq rfl

/-- Two silent changes make one. -/
theorem SilentChange.trans {s m t : State} (h₁ : SilentChange s m) (h₂ : SilentChange m t) :
    SilentChange s t := by
  obtain ⟨l₁, hl₁⟩ := h₁.trace
  obtain ⟨l₂, hl₂⟩ := h₂.trace
  exact ⟨h₂.cfg.trans h₁.cfg, h₂.caller.trans h₁.caller, h₂.next.trans h₁.next,
    h₂.tick.trans h₁.tick, l₁ ++ l₂, by rw [hl₂, hl₁, List.append_assoc]⟩

/-- A peripheral command is silent: it appends its symbol to the trace. -/
theorem State.twiCmd_silent (s : State) (c : TwiCommand) : SilentChange s (s.twiCmd c) :=
  ⟨rfl, rfl, rfl, rfl, commandTrace c, rfl⟩

/-- Handing the record back is silent. -/
theorem handBack_silent (s : State) : SilentChange s (handBack s) :=
  .of_history_eq rfl

/-- A silent change answers no response. -/
theorem SilentChange.atMostResponds {s m : State} (h : SilentChange s m) :
    AtMostResponds s (.next m) :=
  ⟨m, h, .inl rfl⟩

/-- A silent change may be followed by a response. -/
theorem SilentChange.respond {s m : State} {c : RespCode} {x : Half} (h : SilentChange s m) :
    AtMostResponds s (.next (m.respond c x)) :=
  ⟨m, h, .inr ⟨c, x, rfl⟩⟩

/-- A refusal gives no response. -/
theorem refuse_atMostResponds (s : State) (e : RefuseReason) :
    AtMostResponds s (.next (s.refuse e)) :=
  SilentChange.atMostResponds (.of_history_eq rfl)

/-- A response alone. -/
theorem respond_atMostResponds (s : State) (c : RespCode) (x : Half) :
    AtMostResponds s (.next (s.respond c x)) :=
  (SilentChange.refl s).respond

/-- What follows a silent change. -/
theorem SilentChange.then {s m : State} {r : Result} (h : SilentChange s m)
    (hr : AtMostResponds m r) : AtMostResponds s r := by
  obtain ⟨m', hm, hr⟩ := hr
  exact ⟨m', h.trans hm, hr⟩

/-! ### The requests, unit by unit, and the foreground's later phases -/

theorem execRegSetRaw_atMostResponds (r : Byte) (v : Half) (s : State) :
    AtMostResponds s (execRegSetRaw r v s) := by
  unfold execRegSetRaw
  split
  · exact refuse_atMostResponds s _
  · split
    · exact refuse_atMostResponds s _
    · exact SilentChange.respond (.of_history_eq rfl)

theorem execRegGet_atMostResponds (r : Byte) (s : State) :
    AtMostResponds s (execRegGet r s) := by
  unfold execRegGet
  split
  · exact refuse_atMostResponds s _
  · exact SilentChange.respond (.of_history_eq rfl)

theorem execRegSetBits_atMostResponds (r : Byte) (m : Half) (s : State) :
    AtMostResponds s (execRegSetBits r m s) := by
  unfold execRegSetBits
  split
  · exact refuse_atMostResponds s _
  · exact SilentChange.atMostResponds (.of_history_eq rfl)

theorem execRegClearBits_atMostResponds (r : Byte) (m : Half) (s : State) :
    AtMostResponds s (execRegClearBits r m s) := by
  unfold execRegClearBits
  split
  · exact refuse_atMostResponds s _
  · exact SilentChange.atMostResponds (.of_history_eq rfl)

theorem execRegReadBits_atMostResponds (r : Byte) (m : Half) (s : State) :
    AtMostResponds s (execRegReadBits r m s) := by
  unfold execRegReadBits
  split
  · exact refuse_atMostResponds s _
  · exact SilentChange.respond (.of_history_eq rfl)

theorem finishRmw_atMostResponds (r : Byte) (v : Half) (s : State) :
    AtMostResponds s (finishRmw r v s) := by
  unfold finishRmw
  split
  · exact refuse_atMostResponds s _
  · exact SilentChange.respond (.of_history_eq rfl)

theorem execPinConfigure_atMostResponds (p : PinId) (mode : PinMode) (s : State) :
    AtMostResponds s (execPinConfigure p mode s) := by
  unfold execPinConfigure
  split
  · exact refuse_atMostResponds s _
  · exact SilentChange.respond (.of_history_eq rfl)

theorem driveLatch_atMostResponds (p : PinId) (b : Bool) (s : State) :
    AtMostResponds s (.next (driveLatch p b s)) := by
  rcases driveLatch_cases p b s with ⟨-, h⟩ | ⟨-, -, h⟩ | ⟨-, -, h⟩ <;> rw [h]
  · exact refuse_atMostResponds s _
  · exact refuse_atMostResponds s _
  · exact SilentChange.respond (.of_history_eq rfl)

theorem execClkInit_atMostResponds (s : State) : AtMostResponds s (execClkInit s) := by
  unfold execClkInit
  split
  · exact respond_atMostResponds s _ _
  · exact SilentChange.respond (.of_history_eq rfl)

theorem execClkNow_atMostResponds (s : State) : AtMostResponds s (execClkNow s) := by
  unfold execClkNow
  split
  · exact SilentChange.respond (.of_history_eq rfl)
  · exact refuse_atMostResponds s _

theorem execClkDrop_atMostResponds (s : State) : AtMostResponds s (execClkDrop s) := by
  unfold execClkDrop
  split
  · exact SilentChange.respond (.of_history_eq rfl)
  · exact refuse_atMostResponds s _

theorem execTwiInit_atMostResponds (s : State) : AtMostResponds s (execTwiInit s) := by
  unfold execTwiInit
  split
  · exact respond_atMostResponds s _ _
  · exact SilentChange.respond (.of_history_eq rfl)

theorem execTwiSetAddress_atMostResponds (addr : Byte) (s : State) :
    AtMostResponds s (execTwiSetAddress addr s) := by
  unfold execTwiSetAddress
  split
  · split
    · exact respond_atMostResponds s _ _
    · exact SilentChange.respond (.of_history_eq rfl)
  · exact refuse_atMostResponds s _

theorem issueWrite_silent (payload : List Byte) (s : State) :
    SilentChange s (issueWrite payload s) :=
  ⟨rfl, rfl, rfl, rfl, [.start], rfl⟩

theorem execTwiWrite_atMostResponds (payload : List Byte) (s : State) :
    AtMostResponds s (execTwiWrite payload s) := by
  unfold execTwiWrite
  split
  · split
    · exact respond_atMostResponds s _ _
    · split
      · exact respond_atMostResponds s _ _
      · exact (issueWrite_silent payload s).atMostResponds
  · exact refuse_atMostResponds s _

theorem awaitWrite_atMostResponds (s : State) : AtMostResponds s (awaitWrite s) := by
  unfold awaitWrite
  split
  · exact SilentChange.respond (.of_history_eq rfl)
  · exact (SilentChange.refl s).atMostResponds

theorem execTwiDrop_atMostResponds (s : State) : AtMostResponds s (execTwiDrop s) := by
  unfold execTwiDrop
  split
  · exact SilentChange.respond (.of_history_eq rfl)
  · exact refuse_atMostResponds s _

theorem execBtnNew_atMostResponds (p : PinId) (s : State) :
    AtMostResponds s (execBtnNew p s) := by
  unfold execBtnNew
  split
  · exact refuse_atMostResponds s _
  · split
    · exact refuse_atMostResponds s _
    · split
      · exact refuse_atMostResponds s _
      · exact SilentChange.respond (.of_history_eq rfl)

theorem execBtnUpdate_atMostResponds (i : Byte) (now : Instant) (s : State) :
    AtMostResponds s (execBtnUpdate i now s) := by
  unfold execBtnUpdate
  split
  · exact refuse_atMostResponds s _
  · exact SilentChange.respond (.of_history_eq rfl)

theorem execBtnWasPressed_atMostResponds (i : Byte) (s : State) :
    AtMostResponds s (execBtnWasPressed i s) := by
  unfold execBtnWasPressed
  split
  · exact refuse_atMostResponds s _
  · exact respond_atMostResponds s _ _

/-! ### The TWI handler and its branches -/

theorem sendNextOrStop_silent (s : State) : SilentChange s (sendNextOrStop s) := by
  rcases sendNextOrStop_cases s with ⟨-, h⟩ | ⟨-, h⟩ <;> rw [h]
  · exact ⟨rfl, rfl, rfl, rfl, [.byte _], rfl⟩
  · exact (s.twiCmd_silent _).trans (handBack_silent _)

theorem failWith_silent (e : TwiError) (c : TwiCommand) (s : State) :
    SilentChange s (failWith e c s) :=
  ⟨rfl, rfl, rfl, rfl, commandTrace c, rfl⟩

theorem twiHandler_silent (s : State) : SilentChange s (twiHandler s) := by
  rw [twiHandler_eq]
  split
  · exact s.twiCmd_silent _
  · exact s.twiCmd_silent _
  · exact sendNextOrStop_silent s
  · exact sendNextOrStop_silent s
  · exact failWith_silent _ _ s
  · exact failWith_silent _ _ s
  · exact failWith_silent _ _ s
  · exact failWith_silent _ _ s
  · exact s.twiCmd_silent _

theorem execIrqTwi_atMostResponds (s : State) : AtMostResponds s (execIrqTwi s) := by
  have hentry : SilentChange s (s.irqEntry .twi) := .of_history_eq rfl
  have hreturn : ∀ u : State, SilentChange u u.irqReturn := fun _ =>
    .of_history_eq rfl
  unfold execIrqTwi
  split
  · exact ((hentry.trans (twiHandler_silent _)).trans (hreturn _)).atMostResponds
  · exact (SilentChange.refl s).atMostResponds

/-! ### The environment -/

theorem timerMatch_silent (s : State) : SilentChange s (timerMatch s) := by
  unfold timerMatch
  split
  · exact .of_history_eq rfl
  · exact .refl s

theorem twiReport_silent (t : Byte) (s : State) : SilentChange s (twiReport t s) := by
  unfold twiReport
  dsimp only
  split
  · split
    · exact .of_history_eq rfl
    · split
      · exact .refl s
      · exact .of_history_eq rfl
  · exact .refl s

theorem pinDrive_silent (p : PinId) (l : ExtLevel) (s : State) :
    SilentChange s (pinDrive p l s) := by
  unfold pinDrive
  split
  · exact .of_history_eq rfl
  · exact .refl s

/-! ### Instructions and steps -/

/-- Every instruction but the timer event makes a silent change and gives at most one response. -/
theorem exec_atMostResponds {i : Instr} (hi : i ≠ .irqTimer) (s : State) :
    AtMostResponds s (exec i s) := by
  cases i with
  | regSetRaw r v => exact execRegSetRaw_atMostResponds r v s
  | regGet r => exact execRegGet_atMostResponds r s
  | regSetBits r m => exact execRegSetBits_atMostResponds r m s
  | regClearBits r m => exact execRegClearBits_atMostResponds r m s
  | regReadBits r m => exact execRegReadBits_atMostResponds r m s
  | pinConfigure p mode => exact execPinConfigure_atMostResponds p mode s
  | pinSetHigh p => exact driveLatch_atMostResponds p _ s
  | pinSetLow p => exact driveLatch_atMostResponds p _ s
  | pinToggle p => exact driveLatch_atMostResponds p _ s
  | pinRead p => exact SilentChange.respond (.of_history_eq rfl)
  | clkInit => exact execClkInit_atMostResponds s
  | clkNow => exact execClkNow_atMostResponds s
  | instantElapsed now start => exact respond_atMostResponds s _ _
  | clkDrop => exact execClkDrop_atMostResponds s
  | twiInit => exact execTwiInit_atMostResponds s
  | twiSetAddress addr => exact execTwiSetAddress_atMostResponds addr s
  | twiWrite payload => exact execTwiWrite_atMostResponds payload s
  | twiDrop => exact execTwiDrop_atMostResponds s
  | btnNew p => exact execBtnNew_atMostResponds p s
  | btnUpdate i now => exact execBtnUpdate_atMostResponds i now s
  | btnWasPressed i => exact execBtnWasPressed_atMostResponds i s
  | csEnter => exact SilentChange.respond (.of_history_eq rfl)
  | csExit token => exact SilentChange.respond (.of_history_eq rfl)
  | intEnable => exact SilentChange.respond (.of_history_eq rfl)
  | intDisable => exact SilentChange.respond (.of_history_eq rfl)
  | irqTimer => exact absurd rfl hi
  | irqTwi => exact execIrqTwi_atMostResponds s
  | twiStatusStart => exact (s.twiCmd_silent _).atMostResponds
  | twiStatusRepStart => exact (s.twiCmd_silent _).atMostResponds
  | twiStatusSlaAck => exact (sendNextOrStop_silent s).atMostResponds
  | twiStatusDataAck => exact (sendNextOrStop_silent s).atMostResponds
  | twiStatusSlaNack => exact (failWith_silent _ _ s).atMostResponds
  | twiStatusDataNack => exact (failWith_silent _ _ s).atMostResponds
  | twiStatusArbLost => exact (failWith_silent _ _ s).atMostResponds
  | twiStatusBusError => exact (failWith_silent _ _ s).atMostResponds
  | twiStatusOther => exact (s.twiCmd_silent _).atMostResponds

/-- The foreground takes no timer event, so its step makes a silent change and gives at most one
response. -/
theorem foreground_atMostResponds (s : State) : AtMostResponds s (foreground s) := by
  rcases foreground_cases s with ⟨-, -, h⟩ | ⟨q, -, -, h⟩ | ⟨r, v, -, h⟩ | ⟨-, h⟩ <;> rw [h]
  · exact (SilentChange.refl s).atMostResponds
  · unfold takeRequest
    split
    · exact refuse_atMostResponds s _
    · next i hdec =>
      exact exec_atMostResponds (fun hi => decodeRequest_ne_irqTimer _ q (hi ▸ hdec)) s
  · exact finishRmw_atMostResponds r v s
  · exact awaitWrite_atMostResponds s

/-- The timer event that may be taken runs its handler (R206 to R210). -/
theorem execIrqTimer_of_mayTake {s : State} (h : s.mayTake .timer = true) :
    exec .irqTimer s = .next (s.takeInterrupt .timer timerHandler) :=
  if_pos h

/-- The timer event that may not be taken changes nothing. -/
theorem execIrqTimer_of_not_mayTake {s : State} (h : s.mayTake .timer = false) :
    exec .irqTimer s = .next s :=
  if_neg (by simp [h])

/-- An agent's step takes the timer event, or makes a silent change and gives at most one
response. -/
theorem runTurn_cases (turn : Turn) (s : State) :
    (turn = .takeTimer ∧ s.mayTake .timer = true ∧
      runTurn turn s = .next (s.takeInterrupt .timer timerHandler)) ∨
    ((turn == .takeTimer && s.mayTake .timer) = false ∧ AtMostResponds s (runTurn turn s)) := by
  cases turn with
  | foreground => exact .inr ⟨rfl, foreground_atMostResponds s⟩
  | takeTimer =>
    cases h : s.mayTake .timer with
    | true => exact .inl ⟨rfl, rfl, execIrqTimer_of_mayTake h⟩
    | false =>
      refine .inr ⟨rfl, ?_⟩
      rw [show runTurn .takeTimer s = .next s from execIrqTimer_of_not_mayTake h]
      exact (SilentChange.refl s).atMostResponds
  | takeTwi => exact .inr ⟨rfl, execIrqTwi_atMostResponds s⟩
  | timerMatch => exact .inr ⟨rfl, (timerMatch_silent s).atMostResponds⟩
  | twiReport t => exact .inr ⟨rfl, (twiReport_silent t s).atMostResponds⟩
  | pinDrive p l => exact .inr ⟨rfl, (pinDrive_silent p l s).atMostResponds⟩

/-- What a step that answers a next state did: it took the timer event, or made a silent change and
gave at most one response. -/
theorem step_history {s t : State} (h : step s = .next t) :
    (s.timerTaken = true ∧ t = s.afterTurn.takeInterrupt .timer timerHandler) ∨
    (s.timerTaken = false ∧ ∃ m, SilentChange s m ∧ (t = m ∨ ∃ c x, t = m.respond c x)) := by
  obtain ⟨-, -, hrun⟩ := (step_next_iff s t).1 h
  rcases runTurn_cases s.turn s.afterTurn with ⟨hturn, hmay, hres⟩ | ⟨hnot, hres⟩
  · refine .inl ⟨?_, Host.Outcome.next.inj (hrun.symm.trans hres)⟩
    rw [State.timerTaken, hturn]
    exact hmay
  · have hturn : SilentChange s s.afterTurn := .of_history_eq rfl
    obtain ⟨m, hm, hr⟩ := hturn.then hres
    refine .inr ⟨hnot, m, hm, hr.imp ?_ ?_⟩
    · exact fun hr => Host.Outcome.next.inj (hrun.symm.trans hr)
    · exact fun ⟨c, x, hr⟩ => ⟨c, x, Host.Outcome.next.inj (hrun.symm.trans hr)⟩

/-- Settles O17: the timer event touches no history, a silent change only appends to the trace, and a
response advances `S.next` with the responses. -/
theorem historyOnlyGrows : Obligations.HistoryOnlyGrows := by
  intro s t h
  rcases step_history h with ⟨-, rfl⟩ | ⟨-, m, hm, rfl | ⟨c, x, rfl⟩⟩
  · exact ⟨rfl, rfl, ⟨[], (List.append_nil _).symm⟩, .inl ⟨rfl, rfl⟩⟩
  · exact ⟨hm.cfg, by rw [hm.caller], hm.trace, .inl ⟨hm.next, by rw [hm.caller]⟩⟩
  · exact ⟨hm.cfg, by simp [hm.caller], hm.trace,
      .inr ⟨⟨c, x⟩, by simp [hm.next], by simp [hm.caller]⟩⟩

/-! ## The Clock -/

/-- Settles O21: the request is a response alone, with the wrapped difference as its data. -/
theorem instantElapsedSubtractsModulo : Obligations.InstantElapsedSubtractsModulo := by
  intro now start s
  refine ⟨_, _, rfl, s.respond_responded _ _, ?_, s.respond_frame _ _⟩
  rw [elapsed, Widths.wrap_toNat, BitVec.toNat_sub, Nat.add_comm]

/-- An event is taken only while interrupts are enabled (R206). -/
theorem ie_of_mayTake_timer {s : State} (h : s.mayTake .timer = true) : s.core.ie = true := by
  simp only [State.mayTake, State.timerReady, Bool.and_eq_true] at h
  exact h.1.1.1

/-- A taken timer event changes the tick and the pending match alone: the enable that its entry
clears and its return sets was 1 before. -/
theorem takeInterrupt_timer_frame {s : State} (h : s.core.ie = true) :
    UnchangedBut [.tick, .timPend] s (s.takeInterrupt .timer timerHandler) := by
  rw [takeInterrupt_timer]
  intro p hp; cases p <;> simp_all [Part.agree, State.pin]

/-- Settles O23, from what the taken interrupt does and what its entry and return leave. -/
theorem timerEventAddsOneTick : Obligations.TimerEventAddsOneTick := by
  refine fun s => ⟨fun h => ?_, execIrqTimer_of_not_mayTake⟩
  have hie := ie_of_mayTake_timer h
  refine ⟨_, execIrqTimer_of_mayTake h, ?_, rfl, rfl, hie, takeInterrupt_timer_frame hie⟩
  rw [takeInterrupt_timer]
  simp only [nextTick, Widths.wrap_toNat, BitVec.toNat_add]
  rfl

/-- The ticks of an admitted machine fit the 16 bits of an Instant. -/
theorem tickBits_le_of_wf {c : Config} (h : c.wf = true) : c.tickBits ≤ 16 := by
  simp only [Config.wf, Widths.wf, Bool.and_eq_true, decide_eq_true_eq] at h
  omega

/-- A step changes the tick by the handler run that it makes, modulo `2^TICK_BITS`. -/
theorem step_tick_modEq {s t : State} (h : step s = .next t) :
    t.clock.tick.toNat ≡ s.clock.tick.toNat + (if s.timerTaken then 1 else 0)
      [MOD 2 ^ s.cfg.tickBits] := by
  rcases step_history h with ⟨htaken, rfl⟩ | ⟨htaken, m, hm, ht⟩
  · obtain ⟨-, hwf, -⟩ := (step_next_iff _ _).1 h
    rw [takeInterrupt_timer]
    simp only [htaken, if_true, State.afterTurn_cfg, State.afterTurn_clock,
      nextTick_toNat _ _ (tickBits_le_of_wf hwf)]
    exact Nat.mod_modEq _ _
  · have htick : t.clock.tick = s.clock.tick := by
      rcases ht with rfl | ⟨c, x, rfl⟩
      · exact hm.tick
      · exact hm.tick
    simp [htaken, htick, Nat.ModEq.refl]

/-- A run of `n + 1` steps is a step and a run of `n`. -/
theorem run_succ_next_iff (n : Nat) (s u : State) :
    Host.Core.run core (n + 1) s = .next u ↔
      ∃ t, step s = .next t ∧ Host.Core.run core n t = .next u := by
  have hcore : core.step s = step s := rfl
  simp only [Host.Core.run, hcore]
  cases step s with
  | next t => simp
  | fault r => simp
  | refused r => simp

/-- The handler runs of a run, its first step apart. -/
theorem timerRuns_succ (n : Nat) {s t : State} (h : step s = .next t) :
    timerRuns (n + 1) s = (if s.timerTaken then 1 else 0) + timerRuns n t := by
  simp only [timerRuns, h]

/-- A run keeps the configuration. -/
theorem run_cfg (n : Nat) (s u : State) (h : Host.Core.run core n s = .next u) : u.cfg = s.cfg := by
  induction n generalizing s with
  | zero => cases h; rfl
  | succ n ih =>
    obtain ⟨t, hstep, hrun⟩ := (run_succ_next_iff n s u).1 h
    exact (ih t hrun).trans (historyOnlyGrows s t hstep).1

/-- A run changes the tick by its handler runs, modulo `2^TICK_BITS`. -/
theorem run_tick_modEq (n : Nat) (s u : State) (h : Host.Core.run core n s = .next u) :
    u.clock.tick.toNat ≡ s.clock.tick.toNat + timerRuns n s [MOD 2 ^ s.cfg.tickBits] := by
  induction n generalizing s with
  | zero => cases h; exact Nat.ModEq.refl _
  | succ n ih =>
    obtain ⟨t, hstep, hrun⟩ := (run_succ_next_iff n s u).1 h
    have hrest := ih t hrun
    rw [(historyOnlyGrows s t hstep).1] at hrest
    rw [timerRuns_succ n hstep, ← Nat.add_assoc]
    exact hrest.trans ((step_tick_modEq hstep).add_right _)

/-- What `CLK_NOW` answered is the tick, and the Clock and the configuration stay (R136). -/
theorem clkNow_reading {s t : State} {x : Half} (h : exec .clkNow s = .next t)
    (hx : Responded s t .ok x) :
    x = s.clock.tick ∧ t.clock = s.clock ∧ t.cfg = s.cfg := by
  change execClkNow s = .next t at h
  unfold execClkNow at h
  obtain ⟨hnext, hresp⟩ := hx
  split at h <;> obtain rfl := Host.Outcome.next.inj h
  · simp only [State.respond_caller_responses, State.setIe_caller, State.setIe_clock,
      List.append_cancel_left_eq, List.cons.injEq, Response.mk.injEq] at hresp
    exact ⟨hresp.1.2.symm, rfl, rfl⟩
  · simp at hnext

/-- Two ticks that are `k` apart modulo `2^TICK_BITS` have `k` ticks elapsed between them (R137). -/
theorem elapsed_of_modEq {g : Widths} {x y : Instant} {k : Nat} (hbits : g.tickBits ≤ 16)
    (h : y.toNat ≡ x.toNat + k [MOD 2 ^ g.tickBits]) :
    elapsed g y x = BitVec.ofNat 16 (k % 2 ^ g.tickBits) := by
  have hpow : 2 ^ g.tickBits ∣ 65536 := Nat.pow_dvd_pow 2 hbits
  have hx := x.isLt
  have hk : k % 2 ^ g.tickBits < 65536 :=
    (Nat.mod_lt _ (Nat.two_pow_pos _)).trans_le (Nat.le_of_dvd (by decide) hpow)
  apply BitVec.eq_of_toNat_eq
  rw [elapsed_toNat g y x hbits, BitVec.toNat_ofNat, Nat.mod_eq_of_lt hk]
  calc y.toNat + (65536 - x.toNat)
      ≡ x.toNat + k + (65536 - x.toNat) [MOD 2 ^ g.tickBits] := h.add_right _
    _ = k + 65536 := by omega
    _ ≡ k [MOD 2 ^ g.tickBits] := by simp [Nat.ModEq, Nat.add_mod, Nat.mod_eq_zero_of_dvd hpow]

/-- Between the two ends of a run as many ticks elapse as the timer handler ran. A run of no step
needs no bound on the widths; a step is made by an admitted machine only, whose widths are bounded. -/
theorem elapsed_run (n : Nat) (s u : State) (h : Host.Core.run core n s = .next u) :
    elapsed s.cfg.toWidths u.clock.tick s.clock.tick =
      BitVec.ofNat 16 (timerRuns n s % 2 ^ s.cfg.tickBits) := by
  cases n with
  | zero => cases h; simp [elapsed, Widths.wrap, timerRuns]
  | succ n =>
    obtain ⟨t, hstep, -⟩ := (run_succ_next_iff n s u).1 h
    obtain ⟨-, hwf, -⟩ := (step_next_iff s t).1 hstep
    exact elapsed_of_modEq (tickBits_le_of_wf hwf) (run_tick_modEq (n + 1) s u h)

/-- Settles O24: both readings are the tick at an end of the run. -/
theorem elapsedTicksCountHandlerRuns : Obligations.ElapsedTicksCountHandlerRuns := by
  intro s t u v w n x y hs hx hrun hu hy hw
  obtain ⟨rfl, hclock, hcfg⟩ := clkNow_reading hs hx
  obtain ⟨rfl, -, -⟩ := clkNow_reading hu hy
  have h := elapsed_run n t u hrun
  rw [hclock, hcfg, ← hw] at h
  rw [← hw, ← h]
  exact ⟨_, rfl, w.respond_responded _ _⟩

/-! ## The driver's address -/

/-- Settles O26: the range check of R152 decides between the two clauses. -/
theorem twiSetAddressStoresShifted : Obligations.TwiSetAddressStoresShifted := by
  intro s addr hflag
  have hexec : exec (.twiSetAddress addr) s = execTwiSetAddress addr s := rfl
  rw [hexec, execTwiSetAddress, if_pos hflag]
  simp only [addressTooBig, decide_eq_true_eq]
  refine ⟨fun hfits => ⟨_, if_neg (by omega), ?_, ⟨rfl, rfl⟩, (sla_frame s _).respond _ _⟩,
    fun hbig => ⟨_, if_pos hbig, s.respond_responded _ _, s.respond_frame _ _⟩⟩
  simp [shiftedAddress, BitVec.toNat_shiftLeft, Nat.shiftLeft_eq, Nat.mul_comm]

/-! ## Debouncing -/

/-- When a press is accepted (R181). -/
theorem Button.acceptsPress_iff (b : Button) (c : Config) (pressed : Bool) (now : Instant) :
    b.acceptsPress c pressed now = true ↔ b.isPressed = false ∧ pressed = true ∧
      c.debounceTicks ≤ (now - b.last).toNat % 2 ^ c.tickBits := by
  simp [Button.acceptsPress, elapsed, Widths.wrap_toNat, and_assoc]

/-- When a release is accepted (R181). -/
theorem Button.acceptsRelease_iff (b : Button) (pressed : Bool) :
    b.acceptsRelease pressed = true ↔ b.isPressed = true ∧ pressed = false := by
  simp [Button.acceptsRelease]

/-- An accepted press. -/
theorem Button.update_of_press {b : Button} {c : Config} {pressed : Bool} {now : Instant}
    (h : b.acceptsPress c pressed now = true) :
    b.update c pressed now = { b with isPressed := true, last := c.wrap now, changed := true } :=
  if_pos h

/-- An accepted release, which is no accepted press. -/
theorem Button.update_of_release {b : Button} {c : Config} {pressed : Bool} {now : Instant}
    (h : b.acceptsRelease pressed = true) :
    b.update c pressed now = { b with isPressed := false, last := c.wrap now, changed := true } := by
  have hpress : ¬ b.acceptsPress c pressed now = true := by
    rw [Button.acceptsRelease_iff] at h
    simp [Button.acceptsPress_iff, h]
  rw [Button.update, if_neg hpress, if_pos h]

/-- An update that accepts nothing. -/
theorem Button.update_of_neither {b : Button} {c : Config} {pressed : Bool} {now : Instant}
    (hp : ¬ b.acceptsPress c pressed now = true) (hr : ¬ b.acceptsRelease pressed = true) :
    b.update c pressed now = { b with changed := false } := by
  rw [Button.update, if_neg hp, if_neg hr]

/-- An update keeps the Button's pin. -/
theorem Button.update_pin (b : Button) (c : Config) (pressed : Bool) (now : Instant) :
    (b.update c pressed now).pin = b.pin := by
  unfold Button.update
  split
  · rfl
  · split <;> rfl

/-- `BTN_UPDATE` of a Button that exists. -/
theorem execBtnUpdate_of_some {s : State} {i : Byte} {b : Button} (now : Instant)
    (h : s.btns[i.toNat]? = some b) :
    exec (.btnUpdate i now) s =
      .next (State.respond
        { s.afterDraw with btns := s.btns.set i.toNat (b.update s.cfg (!s.readPin b.pin) now) } .ok
        (bitData (b.update s.cfg (!s.readPin b.pin) now).changed)) := by
  change execBtnUpdate i now s = _
  simp only [execBtnUpdate, h]

/-- Settles O55: the three outcomes of an update are the three clauses. -/
theorem btnUpdateDebouncesPressesOnly : Obligations.BtnUpdateDebouncesPressesOnly := by
  intro s i now b hb
  refine ⟨_, _, execBtnUpdate_of_some now hb, rfl, b.update_pin _ _ _, ⟨rfl, rfl⟩,
    fun hrel hlow hticks => ?_, fun hpressed hhigh => ?_, fun hidle => ?_,
    ((btns_afterDraw_frame s _).respond _ _).mono (by simp)⟩
  · rw [Button.update_of_press ((b.acceptsPress_iff _ _ _).2 ⟨hrel, by simp [hlow], hticks⟩)]
    exact ⟨rfl, Widths.wrap_toNat _ _, rfl⟩
  · rw [Button.update_of_release ((b.acceptsRelease_iff _).2 ⟨hpressed, by simp [hhigh]⟩)]
    exact ⟨rfl, Widths.wrap_toNat _ _, rfl⟩
  · rw [Button.update_of_neither]
    · exact ⟨rfl, rfl, rfl⟩
    · rw [Button.acceptsPress_iff]
      rintro ⟨hrel, hlow, hticks⟩
      rcases hidle with ⟨hp, -⟩ | ⟨-, hh⟩ | ⟨-, hfew⟩
      · simp [hp] at hrel
      · simp [hh] at hlow
      · omega
    · rw [Button.acceptsRelease_iff]
      rintro ⟨hpressed, hhigh⟩
      rcases hidle with ⟨-, hl⟩ | ⟨hr, -⟩ | ⟨hr, -⟩
      · simp [hl] at hhigh
      · simp [hr] at hpressed
      · simp [hr] at hpressed

end Sys2Proof.Machine
end

/-! PROOF. What a request can do, said once, with the invariant of the machine at reset and over every
step, and the statements of 10_state.md that follow: the values at reset, the moves and the writers of
the driver record, the trace that is never read, the placing of an instruction, and the answers of the
register, Bit-set, Button and interrupt-control requests. -/

namespace Sys2Proof

/-! ## Requests that decode -/

/-- The check of a payload's length bounds it by 16 bits (R82). -/
theorem payloadFits_of_length_beq {pl : List Byte} {a : Half} (h : (pl.length == a.toNat) = true) :
    payloadFits pl = true := by
  have := a.isLt
  simp only [beq_iff_eq] at h
  simp only [payloadFits, decide_eq_true_eq]
  omega

/-- A selector that names a pin names one that the machine has (R36, R90). -/
theorem hasPin_of_pinOfSel {g : Widths} {sel : Byte} {p : PinId} (h : pinOfSel g sel = some p) :
    g.hasPin p = true :=
  ((pinOfSel_eq_some_iff g sel p).1 h).2

/-- What decodes is a well-formed request: it has an opcode, a pin id that it names is a pin of the
machine, and its payload fits its length. -/
theorem wellFormed_of_decodeRequest {g : Widths} {q : Request} {i : Instr}
    (h : decodeRequest g q = .ok i) : i.wellFormed g = true ∧ (Laws.opcodeOf i).isSome = true := by
  unfold decodeRequest at h
  split at h
  case h_6 =>
    obtain ⟨-, -, h⟩ := (plainRequest_eq_ok_iff _ _ _ _).1 h
    obtain ⟨p, hp, h⟩ := (withPin_eq_ok_iff _ _ _ _).1 h
    split at h <;> cases h
    exact ⟨hasPin_of_pinOfSel hp, rfl⟩
  case h_17 =>
    simp only [checkThen_eq_ok_iff] at h
    obtain ⟨-, hlen, h⟩ := h
    cases h
    exact ⟨payloadFits_of_length_beq hlen, rfl⟩
  all_goals
    simp only [plainRequest_eq_ok_iff, withPin_eq_ok_iff, reduceCtorEq, Except.ok.injEq] at h
  case h_7 | h_8 | h_9 | h_10 | h_19 =>
    obtain ⟨-, -, p, hp, rfl⟩ := h
    exact ⟨hasPin_of_pinOfSel hp, rfl⟩
  all_goals
    obtain ⟨-, -, rfl⟩ := h
    exact ⟨rfl, rfl⟩

/-! ## Admitted configurations -/

/-- The values of R8 in an admitted configuration. -/
theorem Config.values_of_wf {c : Config} (h : c.wf = true) :
    c.hasPin c.sdaPin = true ∧ c.hasPin c.sclPin = true ∧ c.slaReset.toNat < 2 ^ c.addrBits ∧
      c.btnLastReset.toNat < 2 ^ c.tickBits := by
  simp only [Config.wf, Config.valuesWf, Bool.and_eq_true, decide_eq_true_eq] at h
  obtain ⟨⟨-, ⟨⟨⟨hsda, hscl⟩, hsla⟩, hlast⟩, -⟩, -⟩ := h
  exact ⟨hsda, hscl, hsla, hlast⟩

/-- The check of R61, as a relation between the entries of the table. -/
theorem regTableDisjoint_iff (ds : List RegDesc) :
    regTableDisjoint ds = true ↔ ds.Pairwise fun d e => d.disjoint e = true := by
  induction ds with
  | nil => simp [regTableDisjoint]
  | cons d ds ih => simp [regTableDisjoint, ih]

/-- The register table of an admitted configuration: each descriptor is well formed, and no two
overlap. -/
theorem Config.table_of_wf {c : Config} (h : c.wf = true) :
    (∀ d ∈ c.regTable, d.wf = true) ∧ c.regTable.Pairwise fun d e => d.disjoint e = true := by
  simp only [Config.wf, Config.tableWf, Bool.and_eq_true, List.all_eq_true,
    regTableDisjoint_iff] at h
  obtain ⟨-, ⟨⟨-, hwf⟩, -⟩, hdisj⟩ := h
  exact ⟨hwf, hdisj⟩

/-- Sharing no address is mutual. -/
theorem RegDesc.disjoint_symm {d e : RegDesc} (h : d.disjoint e = true) : e.disjoint d = true := by
  simp only [RegDesc.disjoint, Bool.or_eq_true, decide_eq_true_eq] at h ⊢
  exact h.symm

/-- Two descriptors of an admitted configuration are one, or share no address (R61). -/
theorem Config.eq_or_disjoint_of_wf {c : Config} (h : c.wf = true) {d e : RegDesc}
    (hd : d ∈ c.regTable) (he : e ∈ c.regTable) : d = e ∨ d.disjoint e = true := by
  have hsymm : Std.Symm fun d e : RegDesc => d.disjoint e = true :=
    ⟨fun _ _ => RegDesc.disjoint_symm⟩
  by_cases hde : d = e
  · exact .inl hde
  · exact .inr ((Config.table_of_wf h).2.forall hd he hde)

end Sys2Proof

namespace Sys2Proof.Machine

/-! ## What a request can do

A request is refused, or makes one of a few effects and ends with a response, or holds a value to be
written back, or issues a write to the bus. What every request keeps is proved over these. -/

/-- The effect that a request `i` may have on a state before it ends. -/
inductive RequestEffect (i : Instr) (s : State) : State → Prop
  | none : RequestEffect i s s
  | draw : RequestEffect i s s.afterDraw
  | writeReg (d : RegDesc) (w : Half) (hd : d ∈ s.cfg.regTable) : RequestEffect i s (s.writeReg d w)
  | setIe (b : Bool) : RequestEffect i s (s.setIe b)
  | pinConfigure (p : PinId) (mode : PinMode)
      (hp : i.wellFormed s.cfg.toWidths = true → s.cfg.hasPin p = true) :
      RequestEffect i s (s.pinConfigure p mode)
  | setLatch (p : PinId) (b : Bool)
      (hp : i.wellFormed s.cfg.toWidths = true → s.cfg.hasPin p = true) :
      RequestEffect i s (s.setLatch p b)
  | setClock (on pend : Bool) :
      RequestEffect i s
        { s with clock := { s.clock with flag := on, timEn := on, timIe := on, timPend := pend } }
  | twiInit :
      RequestEffect i s
        { (s.pinConfigure s.cfg.sdaPin .inputPullup).pinConfigure s.cfg.sclPin .inputPullup with
          drv := { s.drv with flag := true, state := .ready }
          per := { s.per with rate := s.cfg.twiSclHz, en := true, ea := true } }
  | setAddress (addr : Byte) (hfits : addr.toNat < 2 ^ s.cfg.addrBits) :
      RequestEffect i s { s with drv := { s.drv with sla := shiftedAddress addr } }
  | twiDrop :
      RequestEffect i s
        { s with
          per := { s.per with en := false, ie := false, int := false, out := .none, phase := .idle }
          drv := { s.drv with state := .uninitialized, flag := false } }
  | newButton (p : PinId) (hp : i.wellFormed s.cfg.toWidths = true → s.cfg.hasPin p = true)
      (hroom : s.btns.length < s.cfg.maxButtons) (hfree : ∀ b ∈ s.btns, b.pin ≠ p) :
      RequestEffect i s
        { s.pinConfigure p .inputPullup with btns := s.btns ++ [newButton s.cfg p] }
  | updateButton (k : Nat) (b : Button) (pressed : Bool) (now : Instant)
      (hb : s.btns[k]? = some b) :
      RequestEffect i s { s.afterDraw with btns := s.btns.set k (b.update s.cfg pressed now) }

/-- The state in which a request `i` leaves the machine. -/
inductive RequestOutcome (i : Instr) (s : State) : State → Prop
  | refused (e : RefuseReason) : RequestOutcome i s (s.refuse e)
  | ended {m : State} (hm : RequestEffect i s m) (c : RespCode) (x : Half) :
      RequestOutcome i s (m.respond c x)
  | held (r : Byte) (v : Half) (hr : Config.namesFree s.cfg r = true) :
      RequestOutcome i s (s.afterDraw.setFg (.rmwWrite r v))
  | issued (payload : List Byte) (hflag : s.drv.flag = true) (hready : s.drv.state = .ready)
      (hlen : payload.length ≤ s.cfg.bufCap) : RequestOutcome i s (issueWrite payload s)

/-- The request answers a next state, which is one of its outcomes. -/
def AnswersRequest (i : Instr) (s : State) (r : Result) : Prop :=
  ∃ t, r = .next t ∧ RequestOutcome i s t

section
variable {i : Instr} {s : State}

theorem AnswersRequest.refuse (e : RefuseReason) : AnswersRequest i s (.next (s.refuse e)) :=
  ⟨_, rfl, .refused e⟩

theorem RequestEffect.respond {m : State} (h : RequestEffect i s m) {c : RespCode} {x : Half} :
    AnswersRequest i s (.next (m.respond c x)) :=
  ⟨_, rfl, .ended h c x⟩

theorem AnswersRequest.respond {c : RespCode} {x : Half} :
    AnswersRequest i s (.next (s.respond c x)) :=
  RequestEffect.none.respond

end

/-- A descriptor that a register id names stands in the table. -/
theorem State.desc_mem {s : State} {r : Byte} {d : RegDesc} (h : s.desc r = some d) :
    d ∈ s.cfg.regTable :=
  List.mem_of_getElem? h

/-- A register that a request may reach stands in the table. -/
theorem State.mem_of_resolveReg {s : State} {r : Byte} {d : RegDesc} (h : s.resolveReg r = .ok d) :
    d ∈ s.cfg.regTable :=
  State.desc_mem ((s.resolveReg_ok_iff r d).1 h).1

/-- A Bit-set that is resolved names a register that the Register Model may reach (R102). -/
theorem State.namesFree_of_resolveBits {s : State} {r : Byte} {m : Half} {need : Access}
    {d : RegDesc} (h : s.resolveBits r m need = .ok d) : Config.namesFree s.cfg r = true := by
  obtain ⟨hreg, -, -⟩ := (s.resolveBits_ok_iff r m need d).1 h
  obtain ⟨hdesc, hfree⟩ := (s.resolveReg_ok_iff r d).1 hreg
  rw [State.desc] at hdesc
  simp [Config.namesFree, hdesc, hfree]

/-! ### The requests, unit by unit -/

theorem execRegSetRaw_answers (i : Instr) (r : Byte) (v : Half) (s : State) :
    AnswersRequest i s (execRegSetRaw r v s) := by
  unfold execRegSetRaw
  split
  · exact .refuse _
  · next d hd =>
    split
    · exact .refuse _
    · exact (RequestEffect.writeReg d v (State.mem_of_resolveReg hd)).respond

theorem execRegGet_answers (i : Instr) (r : Byte) (s : State) :
    AnswersRequest i s (execRegGet r s) := by
  unfold execRegGet
  split
  · exact .refuse _
  · exact RequestEffect.draw.respond

theorem execRegSetBits_answers (i : Instr) (r : Byte) (m : Half) (s : State) :
    AnswersRequest i s (execRegSetBits r m s) := by
  unfold execRegSetBits
  split
  · exact .refuse _
  · next d hd => exact ⟨_, rfl, .held r _ (State.namesFree_of_resolveBits hd)⟩

theorem execRegClearBits_answers (i : Instr) (r : Byte) (m : Half) (s : State) :
    AnswersRequest i s (execRegClearBits r m s) := by
  unfold execRegClearBits
  split
  · exact .refuse _
  · next d hd => exact ⟨_, rfl, .held r _ (State.namesFree_of_resolveBits hd)⟩

theorem execRegReadBits_answers (i : Instr) (r : Byte) (m : Half) (s : State) :
    AnswersRequest i s (execRegReadBits r m s) := by
  unfold execRegReadBits
  split
  · exact .refuse _
  · exact RequestEffect.draw.respond

theorem execPinConfigure_answers (p : PinId) (mode : PinMode) (s : State) :
    AnswersRequest (.pinConfigure p mode) s (execPinConfigure p mode s) := by
  unfold execPinConfigure
  split
  · exact .refuse _
  · exact (RequestEffect.pinConfigure p mode id).respond

theorem driveLatch_answers {i : Instr} {p : PinId} (s : State)
    (hi : i.wellFormed s.cfg.toWidths = s.cfg.hasPin p) (b : Bool) :
    AnswersRequest i s (.next (driveLatch p b s)) := by
  rcases driveLatch_cases p b s with ⟨-, h⟩ | ⟨-, -, h⟩ | ⟨-, -, h⟩ <;> rw [h]
  · exact .refuse _
  · exact .refuse _
  · exact (RequestEffect.setLatch p b hi.symm.trans).respond

theorem execClkInit_answers (i : Instr) (s : State) : AnswersRequest i s (execClkInit s) := by
  unfold execClkInit
  split
  · exact .respond
  · exact (RequestEffect.setClock true false).respond

theorem execClkNow_answers (i : Instr) (s : State) : AnswersRequest i s (execClkNow s) := by
  unfold execClkNow
  split
  · exact AnswersRequest.respond (s := s)
  · exact .refuse _

theorem execClkDrop_answers (i : Instr) (s : State) : AnswersRequest i s (execClkDrop s) := by
  unfold execClkDrop
  split
  · exact (RequestEffect.setClock false s.clock.timPend).respond
  · exact .refuse _

theorem execTwiInit_answers (i : Instr) (s : State) : AnswersRequest i s (execTwiInit s) := by
  unfold execTwiInit
  split
  · exact .respond
  · exact RequestEffect.twiInit.respond

theorem execTwiSetAddress_answers (i : Instr) (addr : Byte) (s : State) :
    AnswersRequest i s (execTwiSetAddress addr s) := by
  unfold execTwiSetAddress
  split
  · split
    · exact .respond
    · next hfits =>
      simp only [addressTooBig, decide_eq_true_eq, Nat.not_le] at hfits
      exact (RequestEffect.setAddress addr hfits).respond
  · exact .refuse _

theorem execTwiWrite_answers (i : Instr) (payload : List Byte) (s : State) :
    AnswersRequest i s (execTwiWrite payload s) := by
  unfold execTwiWrite
  split
  · next hflag =>
    split
    · exact .respond
    · next hready =>
      split
      · exact .respond
      · next hlen =>
        exact ⟨_, rfl, .issued payload hflag (not_not.1 hready) (Nat.le_of_not_lt hlen)⟩
  · exact .refuse _

theorem execTwiDrop_answers (i : Instr) (s : State) : AnswersRequest i s (execTwiDrop s) := by
  unfold execTwiDrop
  split
  · exact RequestEffect.twiDrop.respond
  · exact .refuse _

/-- A pin has no Button exactly when no Button has it. -/
theorem State.pinHasButton_eq_false_iff (s : State) (p : PinId) :
    s.pinHasButton p = false ↔ ∀ b ∈ s.btns, b.pin ≠ p := by
  simp [State.pinHasButton]

theorem execBtnNew_answers (p : PinId) (s : State) :
    AnswersRequest (.btnNew p) s (execBtnNew p s) := by
  unfold execBtnNew
  split
  · exact .refuse _
  · next hroom =>
    split
    · exact .refuse _
    · next hfree =>
      split
      · exact .refuse _
      · rw [Bool.not_eq_true, State.pinHasButton_eq_false_iff] at hfree
        exact (RequestEffect.newButton p id (Nat.lt_of_not_le hroom) hfree).respond

theorem execBtnUpdate_answers (i : Instr) (k : Byte) (now : Instant) (s : State) :
    AnswersRequest i s (execBtnUpdate k now s) := by
  unfold execBtnUpdate
  split
  · exact .refuse _
  · next b hb => exact (RequestEffect.updateButton k.toNat b _ now hb).respond

theorem execBtnWasPressed_answers (i : Instr) (k : Byte) (s : State) :
    AnswersRequest i s (execBtnWasPressed k s) := by
  unfold execBtnWasPressed
  split
  · exact .refuse _
  · exact .respond

/-- Every request answers one of its outcomes. -/
theorem exec_answers {i : Instr} (hi : (Laws.opcodeOf i).isSome = true) (s : State) :
    AnswersRequest i s (exec i s) := by
  cases i with
  | regSetRaw r v => exact execRegSetRaw_answers _ r v s
  | regGet r => exact execRegGet_answers _ r s
  | regSetBits r m => exact execRegSetBits_answers _ r m s
  | regClearBits r m => exact execRegClearBits_answers _ r m s
  | regReadBits r m => exact execRegReadBits_answers _ r m s
  | pinConfigure p mode => exact execPinConfigure_answers p mode s
  | pinSetHigh p => exact driveLatch_answers s rfl _
  | pinSetLow p => exact driveLatch_answers s rfl _
  | pinToggle p => exact driveLatch_answers s rfl _
  | pinRead p => exact RequestEffect.draw.respond
  | clkInit => exact execClkInit_answers _ s
  | clkNow => exact execClkNow_answers _ s
  | instantElapsed now start => exact AnswersRequest.respond
  | clkDrop => exact execClkDrop_answers _ s
  | twiInit => exact execTwiInit_answers _ s
  | twiSetAddress addr => exact execTwiSetAddress_answers _ addr s
  | twiWrite payload => exact execTwiWrite_answers _ payload s
  | twiDrop => exact execTwiDrop_answers _ s
  | btnNew p => exact execBtnNew_answers p s
  | btnUpdate k now => exact execBtnUpdate_answers _ k now s
  | btnWasPressed k => exact execBtnWasPressed_answers _ k s
  | csEnter => exact (RequestEffect.setIe false).respond
  | csExit token => exact (RequestEffect.setIe token).respond
  | intEnable => exact (RequestEffect.setIe true).respond
  | intDisable => exact (RequestEffect.setIe false).respond
  | _ => simp [Laws.opcodeOf] at hi

/-- A request that the foreground takes is refused by the decoder, or is an instruction that the
machine can have, which answers one of its outcomes. -/
theorem takeRequest_cases {q : Request} {s t : State} (h : takeRequest q s = .next t) :
    (∃ e, t = s.refuse e) ∨
    ∃ i, i.wellFormed s.cfg.toWidths = true ∧ RequestOutcome i s t := by
  unfold takeRequest at h
  split at h
  · exact .inl ⟨_, (Host.Outcome.next.inj h).symm⟩
  · next i hdec =>
    obtain ⟨hwf, hop⟩ := wellFormed_of_decodeRequest hdec
    obtain ⟨u, hu, hout⟩ := exec_answers hop s
    obtain rfl := Host.Outcome.next.inj (h.symm.trans hu)
    exact .inr ⟨i, hwf, hout⟩


/-! ## Reset -/

/-- Bits inside a mask and outside it at once. -/
theorem and_mask_and_not_mask (w m : Half) : w &&& m &&& ~~~m = 0#16 := by
  simp [BitVec.and_assoc]

/-- Right after reset each register of a table without overlaps reads as its reset value under its
mask (R42, R47). -/
theorem Memory.read_ofReset {ds : List RegDesc} (vs : List Half) (hwf : ∀ d ∈ ds, d.wf = true)
    (hdisj : ds.Pairwise fun d e => d.disjoint e = true) {r : Nat} {d : RegDesc}
    (hd : ds[r]? = some d) :
    Memory.read (Memory.ofReset ds vs) d.addr d.width = vs.getD r 0#16 &&& d.mask := by
  induction ds generalizing vs r with
  | nil => simp at hd
  | cons e ds ih =>
    obtain ⟨hhead, htail⟩ := List.pairwise_cons.1 hdisj
    cases r with
    | zero =>
      obtain rfl : e = d := by simpa using hd
      rw [Memory.ofReset, Memory.read_write_same _ _ _ _ (Memory.ofReset_wf ds vs.tail),
        BitVec.and_assoc, RegDesc.mask_within e (hwf e (by simp))]
      cases vs <;> rfl
    | succ r =>
      have hd' : ds[r]? = some d := by simpa using hd
      rw [Memory.ofReset, Memory.read_write_disjoint (hhead d (List.mem_of_getElem? hd')),
        ih vs.tail (fun x hx => hwf x (by simp [hx])) htail hd']
      cases vs <;> rfl

/-- A register right after reset. -/
theorem State.stored_resetOf {c : Config} (h : c.wf = true) {r : Nat} {d : RegDesc}
    (hd : c.regTable[r]? = some d) :
    (State.resetOf c).stored d = c.regReset.getD r 0#16 &&& d.mask :=
  Memory.read_ofReset _ (Config.table_of_wf h).1 (Config.table_of_wf h).2 hd

/-- Settles O13: every value but those of the registers stands in the definition of reset. -/
theorem resetLeavesTheListedValues : Obligations.ResetLeavesTheListedValues := fun c h =>
  { ie := rfl, fg := rfl, next := rfl, refused := rfl, clkFlag := rfl, tick := rfl
    timers := ⟨rfl, rfl, rfl⟩, twiFlag := rfl, twiState := rfl, sla := rfl, cursors := ⟨rfl, rfl⟩
    err := rfl, peripheral := ⟨rfl, rfl, rfl, rfl⟩, command := ⟨rfl, rfl⟩, trace := rfl
    pins := fun p => by simp
    nBtn := rfl
    registers := fun _ _ => State.stored_resetOf h }

/-- A byte shifted left has bit 0 clear. -/
theorem getLsbD_zero_shiftLeft_one (b : Byte) : (b <<< 1).getLsbD 0 = false := by simp

/-- An address of `ADDR_BITS` bits, shifted once, has one bit more. -/
theorem shiftLeft_one_toNat_lt {b : Byte} {n : Nat} (h : b.toNat < 2 ^ n) :
    (b <<< 1).toNat < 2 ^ (n + 1) := by
  have hle : b.toNat <<< 1 % 2 ^ 8 ≤ b.toNat <<< 1 := Nat.mod_le _ _
  rw [BitVec.toNat_shiftLeft]
  rw [Nat.shiftLeft_eq] at hle ⊢
  rw [Nat.pow_succ]
  omega

/-- Settles O14: the ranges are those of the configuration's values, and the registers read as reset
leaves them. -/
theorem resetMeetsTheMachineInvariant : Obligations.ResetMeetsTheMachineInvariant := by
  intro c h
  obtain ⟨-, -, hsla, -⟩ := Config.values_of_wf h
  exact
    { cfgWf := h
      memWf := Memory.ofReset_wf _ _
      bufLength := List.length_replicate
      cursors := ⟨Nat.le_refl 0, Nat.zero_le _⟩
      slaEven := getLsbD_zero_shiftLeft_one _
      slaFits := shiftLeft_one_toNat_lt hsla
      instants := ⟨Nat.two_pow_pos _, by simp [State.resetOf]⟩
      noOtherPins := fun p _ => State.pin_reset c p
      flagState := by simp [State.resetOf]
      perEn := rfl
      quiet := fun _ => ⟨rfl, rfl⟩
      waiting := by simp [State.resetOf]
      waitLive := by simp [State.resetOf]
      timer := ⟨rfl, rfl⟩
      buttons := ⟨List.nodup_nil, Nat.zero_le _⟩
      answered := rfl
      inProgram := ⟨Nat.zero_le _, fun hfg => absurd rfl hfg⟩
      rmwHeld := by simp [State.resetOf]
      masked := fun d hd => by
        obtain ⟨r, hr⟩ := List.getElem?_of_mem hd
        rw [State.stored_resetOf h hr, and_mask_and_not_mask]
      reason := rfl }

/-! ## The invariant and the named operations

One lemma for each operation, with the fields of the invariant that it can touch. -/

section
variable {s : State}

/-- The end of a request of the program, given while the foreground is idle. -/
theorem State.Inv.respond (h : s.Inv) (hidle : s.core.fg = .idle)
    (hnext : s.core.next < s.caller.program.length) (c : RespCode) (x : Half) :
    (s.respond c x).Inv :=
  { h with
    answered := by simp [h.answered]
    inProgram := ⟨hnext, fun hfg => absurd hidle hfg⟩ }

theorem State.Inv.refuse (h : s.Inv) (e : RefuseReason) : (s.refuse e).Inv :=
  { h with reason := rfl }

theorem State.Inv.setIe (h : s.Inv) (b : Bool) : (s.setIe b).Inv := { h with }

theorem State.Inv.afterDraw (h : s.Inv) : s.afterDraw.Inv := { h with }

theorem State.Inv.afterTurn (h : s.Inv) : s.afterTurn.Inv := { h with }

/-- A wait or a held write that is over: the driver does not own the record. -/
theorem State.Inv.setFg_idle (h : s.Inv) (hstate : s.drv.state ≠ .transmitting) :
    (s.setFg .idle).Inv :=
  { h with
    waiting := fun ht => absurd ht hstate
    waitLive := by simp
    inProgram := ⟨h.inProgram.1, fun hfg => absurd rfl hfg⟩
    rmwHeld := by simp }

/-- A request of the program may hold a value for a register that it may reach. -/
theorem State.Inv.setFg_rmwWrite (h : s.Inv) (hstate : s.drv.state ≠ .transmitting)
    (hnext : s.core.next < s.caller.program.length) {r : Byte}
    (hr : Config.namesFree s.cfg r = true) (v : Half) : (s.setFg (.rmwWrite r v)).Inv :=
  { h with
    waiting := fun ht => absurd ht hstate
    waitLive := by simp
    inProgram := ⟨h.inProgram.1, fun _ => hnext⟩
    rmwHeld := by
      rintro _ _ ⟨⟩
      exact hr }

/-- A masked write leaves every register's bits inside its mask: the register written, and those at
other addresses (R61, R101). -/
theorem State.Inv.writeReg (h : s.Inv) {d : RegDesc} (hd : d ∈ s.cfg.regTable) (w : Half) :
    (s.writeReg d w).Inv :=
  { h with
    memWf := Memory.write_wf _ _ _ _ h.memWf
    masked := fun e he => by
      rcases Config.eq_or_disjoint_of_wf h.cfgWf hd he with rfl | hdisj
      · rw [State.stored_writeReg s d w h.memWf ((Config.table_of_wf h.cfgWf).1 d hd),
          and_mask_and_not_mask]
      · rw [State.stored_writeReg_disjoint s d e w hdisj]
        exact h.masked e he }

/-- A pin of the machine may be given any value. -/
theorem State.Inv.setPin (h : s.Inv) {p : PinId} (hp : s.cfg.hasPin p = true) (v : Pin) :
    (s.setPin p v).Inv :=
  { h with
    noOtherPins := fun q hq => by
      have hne : q ≠ p := by
        rintro rfl
        exact absurd (hp.symm.trans hq) (by decide)
      rw [State.pin_setPin_ne s v hne]
      exact h.noOtherPins q hq }

theorem State.Inv.pinConfigure (h : s.Inv) {p : PinId} (hp : s.cfg.hasPin p = true)
    (mode : PinMode) : (s.pinConfigure p mode).Inv :=
  h.setPin hp _

theorem State.Inv.setLatch (h : s.Inv) {p : PinId} (hp : s.cfg.hasPin p = true) (b : Bool) :
    (s.setLatch p b).Inv :=
  h.setPin hp _

/-- A command to the peripheral of a live driver. -/
theorem State.Inv.twiCmd (h : s.Inv) (hflag : s.drv.flag = true) (c : TwiCommand) :
    (s.twiCmd c).Inv :=
  { h with quiet := fun hoff => absurd (hflag.symm.trans hoff) (by decide) }

/-- The record of a live driver may be handed back at any time. -/
theorem State.Inv.handBack (h : s.Inv) (hflag : s.drv.flag = true) : (handBack s).Inv :=
  { h with
    flagState := by simp [hflag]
    waiting := by simp
    waitLive := by simp }

/-! ### Requests -/

/-- A foreground that does not wait has not handed the record to the handler (R46). -/
theorem State.Inv.notTransmitting (h : s.Inv) (hfg : s.core.fg ≠ .twiWait) :
    s.drv.state ≠ .transmitting :=
  fun ht => hfg (h.waiting ht)

/-- A new driver is Ready. -/
theorem State.Inv.twiInit (h : s.Inv) :
    State.Inv { s with drv := { s.drv with flag := true, state := .ready }
                       per := { s.per with rate := s.cfg.twiSclHz, en := true, ea := true } } :=
  { h with
    flagState := by simp
    perEn := rfl
    quiet := by simp
    waiting := by simp
    waitLive := by simp }

/-- The driver may be released while the foreground does not wait on it. -/
theorem State.Inv.twiDrop (h : s.Inv) (hidle : s.core.fg = .idle) :
    State.Inv
      { s with
        per := { s.per with en := false, ie := false, int := false, out := .none, phase := .idle }
        drv := { s.drv with state := .uninitialized, flag := false } } :=
  { h with
    flagState := by simp
    perEn := rfl
    quiet := fun _ => ⟨rfl, rfl⟩
    waiting := by simp
    waitLive := by simp [hidle] }

theorem State.Inv.newButton (h : s.Inv) {p : PinId} (hroom : s.btns.length < s.cfg.maxButtons)
    (hfree : ∀ b ∈ s.btns, b.pin ≠ p) :
    State.Inv { s with btns := s.btns ++ [Machine.newButton s.cfg p] } := by
  obtain ⟨-, -, -, hlast⟩ := Config.values_of_wf h.cfgWf
  exact { h with
    instants := ⟨h.instants.1, fun b hb => by
      rcases List.mem_append.1 hb with hb | hb
      · exact h.instants.2 b hb
      · obtain rfl := List.mem_singleton.1 hb
        exact hlast⟩
    buttons := by
      refine ⟨?_, by simpa using hroom⟩
      rw [List.map_append, List.nodup_append]
      refine ⟨h.buttons.1, by simp, ?_⟩
      simpa [Machine.newButton] using hfree }

/-- An update records a wrapped Instant or keeps the one it had. -/
theorem Button.update_last_lt {b : Button} {c : Config} (h : b.last.toNat < 2 ^ c.tickBits)
    (pressed : Bool) (now : Instant) : (b.update c pressed now).last.toNat < 2 ^ c.tickBits := by
  unfold Button.update
  split
  · exact Widths.wrap_lt _ _
  · split
    · exact Widths.wrap_lt _ _
    · exact h

theorem State.Inv.updateButton (h : s.Inv) {k : Nat} {b : Button} (hb : s.btns[k]? = some b)
    (pressed : Bool) (now : Instant) :
    State.Inv { s with btns := s.btns.set k (b.update s.cfg pressed now) } :=
  { h with
    instants := ⟨h.instants.1, fun x hx => by
      rcases List.mem_or_eq_of_mem_set hx with hx | rfl
      · exact h.instants.2 x hx
      · exact Button.update_last_lt (h.instants.2 b (List.mem_of_getElem? hb)) pressed now⟩
    buttons := by
      have hpins : (s.btns.set k (b.update s.cfg pressed now)).map Button.pin =
          s.btns.map Button.pin := by
        obtain ⟨hk, rfl⟩ := List.getElem?_eq_some_iff.1 hb
        rw [List.map_set, Button.update_pin, ← List.map_set, List.set_getElem_self]
      refine ⟨?_, ?_⟩
      · simpa only [hpins] using h.buttons.1
      · simpa using h.buttons.2 }

/-- The issue step of a write that fits hands the record to the handler (R153). -/
theorem State.Inv.issueWrite (h : s.Inv) {payload : List Byte} (hflag : s.drv.flag = true)
    (hlen : payload.length ≤ s.cfg.bufCap) (hnext : s.core.next < s.caller.program.length) :
    (issueWrite payload s).Inv :=
  { h with
    bufLength := by
      have hbuf := h.bufLength
      simp only [Machine.issueWrite, fillBuf, State.setFg_drv, State.setFg_cfg, State.twiCmd_drv,
        State.twiCmd_cfg, List.length_append, List.length_drop]
      omega
    cursors := ⟨Nat.zero_le _, hlen⟩
    flagState := by simp [Machine.issueWrite, hflag]
    quiet := fun hoff => absurd (hflag.symm.trans hoff) (by decide)
    waiting := fun _ => rfl
    waitLive := by simp [Machine.issueWrite]
    inProgram := ⟨h.inProgram.1, fun _ => hnext⟩
    rmwHeld := by simp [Machine.issueWrite] }

end

/-- An effect of a request leaves the request itself in progress, and the run as it was. -/
theorem RequestEffect.keeps_request {i : Instr} {s m : State} (h : RequestEffect i s m) :
    m.core.fg = s.core.fg ∧ m.core.next = s.core.next ∧ m.core.refused = s.core.refused ∧
      m.caller = s.caller := by
  cases h <;> exact ⟨rfl, rfl, rfl, rfl⟩

/-- Every effect of a request that the machine can have keeps the invariant. -/
theorem RequestEffect.keeps_inv {i : Instr} {s m : State} (h : RequestEffect i s m)
    (hwf : i.wellFormed s.cfg.toWidths = true) (hidle : s.core.fg = .idle) (hs : s.Inv) :
    m.Inv := by
  cases h with
  | none => exact hs
  | draw => exact hs.afterDraw
  | writeReg d w hd => exact hs.writeReg hd w
  | setIe b => exact hs.setIe b
  | pinConfigure p mode hp => exact hs.pinConfigure (hp hwf) mode
  | setLatch p b hp => exact hs.setLatch (hp hwf) b
  | setClock on pend => exact { hs with timer := ⟨rfl, rfl⟩ }
  | twiInit =>
    obtain ⟨hsda, hscl, -, -⟩ := Config.values_of_wf hs.cfgWf
    exact ((hs.pinConfigure hsda _).pinConfigure hscl _).twiInit
  | setAddress addr hfits =>
    exact { hs with
      slaEven := getLsbD_zero_shiftLeft_one addr
      slaFits := shiftLeft_one_toNat_lt hfits }
  | twiDrop => exact hs.twiDrop hidle
  | newButton p hp hroom hfree => exact (hs.pinConfigure (hp hwf) _).newButton hroom hfree
  | updateButton k b pressed now hb => exact hs.afterDraw.updateButton hb pressed now

/-- Every outcome of a request that the machine can have keeps the invariant. -/
theorem RequestOutcome.keeps_inv {i : Instr} {s t : State} (h : RequestOutcome i s t)
    (hwf : i.wellFormed s.cfg.toWidths = true) (hidle : s.core.fg = .idle)
    (hnext : s.core.next < s.caller.program.length) (hs : s.Inv) : t.Inv := by
  cases h with
  | refused e => exact hs.refuse e
  | ended hm c x =>
    obtain ⟨hfg, hn, -, hcaller⟩ := hm.keeps_request
    exact (hm.keeps_inv hwf hidle hs).respond (hfg.trans hidle) (by rwa [hn, hcaller]) c x
  | held r v hr =>
    exact hs.afterDraw.setFg_rmwWrite (hs.notTransmitting (by simp [hidle])) hnext hr v
  | issued payload hflag hready hlen => exact hs.issueWrite hflag hlen hnext

/-! ### The foreground -/

/-- A held write writes under the mask and gives its response (R106). -/
theorem finishRmw_keeps_inv {s t : State} {r : Byte} {v : Half} (hfg : s.core.fg = .rmwWrite r v)
    (h : finishRmw r v s = .next t) (hs : s.Inv) : t.Inv := by
  unfold finishRmw at h
  split at h <;> obtain rfl := Host.Outcome.next.inj h
  · exact hs.refuse _
  · next d hd =>
    have hbusy : s.core.fg ≠ .idle := by simp [hfg]
    have hstate : s.drv.state ≠ .transmitting := hs.notTransmitting (by simp [hfg])
    exact ((hs.writeReg (State.desc_mem hd) v).setFg_idle hstate).respond rfl
      (hs.inProgram.2 hbusy) _ _

/-- A wait holds, or ends once the record is handed back (R154, R155). -/
theorem awaitWrite_keeps_inv {s t : State} (hfg : s.core.fg = .twiWait)
    (h : awaitWrite s = .next t) (hs : s.Inv) : t.Inv := by
  unfold awaitWrite at h
  split at h <;> obtain rfl := Host.Outcome.next.inj h
  · next hready =>
    exact (hs.setFg_idle (by simp [hready])).respond rfl (hs.inProgram.2 (by simp [hfg])) _ _
  · exact hs

theorem foreground_keeps_inv {s t : State} (h : foreground s = .next t) (hs : s.Inv) : t.Inv := by
  rcases foreground_cases s with ⟨-, -, hf⟩ | ⟨q, hidle, hq, hf⟩ | ⟨r, v, hfg, hf⟩ | ⟨hfg, hf⟩ <;>
    rw [hf] at h
  · exact Host.Outcome.next.inj h ▸ hs
  · have hnext : s.core.next < s.caller.program.length := (List.getElem?_eq_some_iff.1 hq).1
    rcases takeRequest_cases h with ⟨e, rfl⟩ | ⟨i, hwf, hout⟩
    · exact hs.refuse e
    · exact hout.keeps_inv hwf hidle hnext hs
  · exact finishRmw_keeps_inv hfg h hs
  · exact awaitWrite_keeps_inv hfg h hs

/-! ### Events -/

/-- The timer event writes a wrapped tick, the pending match and the enable. -/
theorem takeInterrupt_timer_keeps_inv {s : State} (hs : s.Inv) :
    (s.takeInterrupt .timer timerHandler).Inv :=
  { hs with instants := ⟨Widths.wrap_lt _ _, hs.instants.2⟩ }

theorem sendNextOrStop_keeps_inv {s : State} (hs : s.Inv) (hflag : s.drv.flag = true) :
    (sendNextOrStop s).Inv := by
  rcases sendNextOrStop_cases s with ⟨hlt, h⟩ | ⟨-, h⟩ <;> rw [h]
  · have hpop : State.Inv { s with drv := { s.drv with rd := s.drv.rd + 1 } } :=
      { hs with cursors := ⟨hlt, hs.cursors.2⟩ }
    exact hpop.twiCmd hflag _
  · exact (hs.twiCmd hflag _).handBack hflag

theorem failWith_keeps_inv {s : State} (hs : s.Inv) (hflag : s.drv.flag = true) (e : TwiError)
    (c : TwiCommand) : (failWith e c s).Inv := by
  have herr : State.Inv { s with drv := { s.drv with err := e } } := { hs with }
  exact (herr.twiCmd hflag c).handBack hflag

theorem twiHandler_keeps_inv {s : State} (hs : s.Inv) (hflag : s.drv.flag = true) :
    (twiHandler s).Inv := by
  rw [twiHandler_eq]
  split
  · exact hs.twiCmd hflag _
  · exact hs.twiCmd hflag _
  · exact sendNextOrStop_keeps_inv hs hflag
  · exact sendNextOrStop_keeps_inv hs hflag
  · exact failWith_keeps_inv hs hflag _ _
  · exact failWith_keeps_inv hs hflag _ _
  · exact failWith_keeps_inv hs hflag _ _
  · exact failWith_keeps_inv hs hflag _ _
  · exact hs.twiCmd hflag _

/-- The TWI event that may be taken finds the peripheral's interrupt on, so a driver exists. -/
theorem State.Inv.flag_of_mayTake_twi {s : State} (hs : s.Inv) (h : s.mayTake .twi = true) :
    s.drv.flag = true := by
  by_contra hoff
  obtain ⟨hie, -⟩ := hs.quiet (by simpa using hoff)
  simp [State.mayTake, State.twiReady, hie] at h

/-- The TWI event is taken, or changes nothing. -/
theorem execIrqTwi_cases (s : State) :
    (s.mayTake .twi = true ∧ exec .irqTwi s = .next (s.takeInterrupt .twi twiHandler)) ∨
    (s.mayTake .twi = false ∧ exec .irqTwi s = .next s) := by
  cases h : s.mayTake .twi with
  | true => exact .inl ⟨rfl, if_pos h⟩
  | false => exact .inr ⟨rfl, if_neg (by simp [h])⟩

theorem execIrqTwi_keeps_inv {s t : State} (h : exec .irqTwi s = .next t) (hs : s.Inv) : t.Inv := by
  rcases execIrqTwi_cases s with ⟨hmay, hex⟩ | ⟨-, hex⟩ <;>
    obtain rfl := Host.Outcome.next.inj (hex.symm.trans h)
  · exact (twiHandler_keeps_inv (hs.setIe false) (hs.flag_of_mayTake_twi hmay)).setIe true
  · exact hs

theorem execIrqTimer_keeps_inv {s t : State} (h : exec .irqTimer s = .next t) (hs : s.Inv) :
    t.Inv := by
  cases hmay : s.mayTake .timer with
  | true =>
    obtain rfl := Host.Outcome.next.inj ((execIrqTimer_of_mayTake hmay).symm.trans h)
    exact takeInterrupt_timer_keeps_inv hs
  | false =>
    obtain rfl := Host.Outcome.next.inj ((execIrqTimer_of_not_mayTake hmay).symm.trans h)
    exact hs

/-! ### The environment -/

theorem timerMatch_keeps_inv {s : State} (hs : s.Inv) : (timerMatch s).Inv := by
  unfold timerMatch
  split
  · exact { hs with }
  · exact hs

/-- A report changes the status, the pending bit and the phase. -/
theorem twiReport_cases (t : Byte) (s : State) :
    twiReport t s = s ∨
    s.per.en = true ∧ ∃ c ph, twiReport t s =
      { s with per := { s.per with status := c, int := true, phase := ph } } := by
  unfold twiReport
  dsimp only
  split
  · next hmay =>
    have hen : s.per.en = true := by
      simp only [State.mayReport, Bool.and_eq_true] at hmay
      exact hmay.1
    split
    · exact .inr ⟨hen, _, _, rfl⟩
    · split
      · exact .inl rfl
      · exact .inr ⟨hen, _, _, rfl⟩
  · exact .inl rfl

/-- A report comes from an enabled peripheral, so a driver exists. -/
theorem twiReport_keeps_inv (t : Byte) {s : State} (hs : s.Inv) : (twiReport t s).Inv := by
  rcases twiReport_cases t s with h | ⟨hen, c, ph, h⟩ <;> rw [h]
  · exact hs
  · have hflag : s.drv.flag = true := hs.perEn.symm.trans hen
    exact { hs with quiet := fun hoff => absurd (hflag.symm.trans hoff) (by decide) }

theorem pinDrive_keeps_inv (p : PinId) (l : ExtLevel) {s : State} (hs : s.Inv) :
    (pinDrive p l s).Inv := by
  unfold pinDrive
  split
  · next hp => exact hs.setPin hp _
  · exact hs

/-! ### The step -/

theorem runTurn_keeps_inv {turn : Turn} {s t : State} (h : runTurn turn s = .next t)
    (hs : s.Inv) : t.Inv := by
  cases turn with
  | foreground => exact foreground_keeps_inv h hs
  | takeTimer => exact execIrqTimer_keeps_inv h hs
  | takeTwi => exact execIrqTwi_keeps_inv h hs
  | timerMatch => exact Host.Outcome.next.inj h ▸ timerMatch_keeps_inv hs
  | twiReport w => exact Host.Outcome.next.inj h ▸ twiReport_keeps_inv w hs
  | pinDrive p l => exact Host.Outcome.next.inj h ▸ pinDrive_keeps_inv p l hs

/-- Settles O15: choosing the turn touches nothing that the invariant speaks of, and the step of
every agent keeps it. -/
theorem everyStepKeepsTheMachineInvariant : Obligations.EveryStepKeepsTheMachineInvariant := by
  intro s t hs h
  obtain ⟨-, -, hrun⟩ := (step_next_iff s t).1 h
  exact runTurn_keeps_inv hrun hs.afterTurn


/-! ## Refusals -/

/-- A request is refused, or leaves it open whether the run goes on. -/
theorem RequestOutcome.refused_cases {i : Instr} {s t : State} (h : RequestOutcome i s t) :
    (∃ e, t = s.refuse e) ∨ t.core.refused = s.core.refused := by
  cases h with
  | refused e => exact .inl ⟨e, rfl⟩
  | ended hm c x =>
    obtain ⟨-, -, hrefused, -⟩ := hm.keeps_request
    exact .inr hrefused
  | held r v hr => exact .inr rfl
  | issued payload hflag hready hlen => exact .inr rfl

theorem sendNextOrStop_core (s : State) : (sendNextOrStop s).core = s.core := by
  rcases sendNextOrStop_cases s with ⟨-, h⟩ | ⟨-, h⟩ <;> rw [h] <;> rfl

/-- The TWI handler touches no core control state. -/
theorem twiHandler_core (s : State) : (twiHandler s).core = s.core := by
  rw [twiHandler_eq]
  split
  case h_3 | h_4 => exact sendNextOrStop_core s
  all_goals rfl

/-- The branch of the status class is the body of the TWI handler (R157). -/
theorem exec_instrOfClass (s : State) :
    exec (instrOfClass s.per.status) s = .next (twiHandler s) := by
  rw [twiHandler_eq]
  cases s.per.status <;> rfl

/-- The TWI event leaves it open whether the run goes on. -/
theorem execIrqTwi_refused {s t : State} (h : exec .irqTwi s = .next t) :
    t.core.refused = s.core.refused := by
  rcases execIrqTwi_cases s with ⟨-, hex⟩ | ⟨-, hex⟩ <;>
    obtain rfl := Host.Outcome.next.inj (hex.symm.trans h)
  · simp [State.takeInterrupt, twiHandler_core]
  · rfl

/-- The timer event touches the clock and the enable alone. -/
theorem execIrqTimer_keeps {s t : State} (h : exec .irqTimer s = .next t) :
    t.core.refused = s.core.refused ∧ t.drv = s.drv := by
  cases hmay : s.mayTake .timer with
  | true =>
    obtain rfl := Host.Outcome.next.inj ((execIrqTimer_of_mayTake hmay).symm.trans h)
    exact ⟨rfl, rfl⟩
  | false =>
    obtain rfl := Host.Outcome.next.inj ((execIrqTimer_of_not_mayTake hmay).symm.trans h)
    exact ⟨rfl, rfl⟩

/-- An event or a handler branch refuses nothing. -/
theorem exec_refused_of_not_request {i : Instr} (hi : ¬ (Laws.opcodeOf i).isSome = true)
    {s t : State} (h : exec i s = .next t) : t.core.refused = s.core.refused := by
  cases i with
  | irqTimer => exact (execIrqTimer_keeps h).1
  | irqTwi => exact execIrqTwi_refused h
  | twiStatusSlaAck | twiStatusDataAck =>
    exact Host.Outcome.next.inj h ▸ congrArg CoreState.refused (sendNextOrStop_core s)
  | twiStatusStart | twiStatusRepStart | twiStatusSlaNack | twiStatusDataNack | twiStatusArbLost
  | twiStatusBusError | twiStatusOther => exact Host.Outcome.next.inj h ▸ rfl
  | _ => exact absurd rfl hi

/-- Settles O11: only a request refuses, and then its outcome is the refusal. -/
theorem refusalChangesNothingElse : Obligations.RefusalChangesNothingElse := by
  intro i s t hs hexec ht
  have hchanged : t.core.refused ≠ s.core.refused := by simp [hs, ht]
  by_cases hi : (Laws.opcodeOf i).isSome = true
  · obtain ⟨u, hu, hout⟩ := exec_answers hi s
    obtain rfl := Host.Outcome.next.inj (hexec.symm.trans hu)
    rcases hout.refused_cases with ⟨e, rfl⟩ | hsame
    · exact ⟨e, s.refuse_refusedWith e⟩
    · exact absurd hsame hchanged
  · exact absurd (exec_refused_of_not_request hi hexec) hchanged

/-! ## The driver record: its writers and the moves of its state -/

/-- While Transmitting the foreground holds (R46, R154). -/
theorem foreground_of_transmitting {s : State} (hs : s.Inv) (ht : s.drv.state = .transmitting) :
    foreground s = .next s := by
  simp [foreground, hs.waiting ht, awaitWrite, ht]

/-- Only the foreground and the TWI event write the driver record. -/
theorem runTurn_drv {turn : Turn} (hf : turn ≠ .foreground) (hw : turn ≠ .takeTwi) {s t : State}
    (h : runTurn turn s = .next t) : t.drv = s.drv := by
  cases turn with
  | foreground => exact absurd rfl hf
  | takeTimer => exact (execIrqTimer_keeps h).2
  | takeTwi => exact absurd rfl hw
  | timerMatch =>
    obtain rfl := Host.Outcome.next.inj h
    unfold timerMatch
    split <;> rfl
  | twiReport w =>
    obtain rfl := Host.Outcome.next.inj h
    rcases twiReport_cases w s with hr | ⟨-, c, ph, hr⟩ <;> rw [hr]
  | pinDrive p l =>
    obtain rfl := Host.Outcome.next.inj h
    unfold pinDrive
    split <;> rfl

/-- Settles O37: the foreground is the only other writer, and it holds while Transmitting. -/
theorem driverRecordHasOneWriter : Obligations.DriverRecordHasOneWriter := by
  intro s t hs h
  obtain ⟨-, -, hrun⟩ := (step_next_iff s t).1 h
  have hother (hf : s.turn ≠ .foreground) (hw : s.turn ≠ .takeTwi) : t.drv = s.drv :=
    (runTurn_drv hf hw hrun).trans s.afterTurn_drv
  refine ⟨fun htrans hw => ?_, fun _ => hother⟩
  by_cases hf : s.turn = .foreground
  · rw [hf] at hrun
    have hhold := foreground_of_transmitting hs.afterTurn htrans
    rw [← Host.Outcome.next.inj (hhold.symm.trans hrun), State.afterTurn_drv]
  · exact hother hf hw

theorem TwiState.mayMove_self (a : TwiState) : a.mayMove a = true := by cases a <;> rfl

theorem TwiState.mayMove_to_ready (a : TwiState) : a.mayMove .ready = true := by cases a <;> rfl

/-- An effect of a request makes the driver, releases it, or leaves its state. -/
theorem RequestEffect.drv_state {i : Instr} {s m : State} (h : RequestEffect i s m) :
    m.drv.state = .ready ∨ m.drv.state = .uninitialized ∨ m.drv.state = s.drv.state := by
  cases h with
  | twiInit => exact .inl rfl
  | twiDrop => exact .inr (.inl rfl)
  | _ => exact .inr (.inr rfl)

/-- A request that is taken while the handler does not own the record moves the driver's state as
R45 lists. -/
theorem RequestOutcome.mayMove {i : Instr} {s t : State} (h : RequestOutcome i s t)
    (hs : s.drv.state ≠ .transmitting) : s.drv.state.mayMove t.drv.state = true := by
  cases h with
  | refused e => exact TwiState.mayMove_self _
  | ended hm c x =>
    rcases hm.drv_state with hr | hu | hsame
    · rw [State.respond_drv, hr]
      exact TwiState.mayMove_to_ready _
    · rw [State.respond_drv, hu]
      cases hst : s.drv.state with
      | transmitting => exact absurd hst hs
      | uninitialized | ready => rfl
    · rw [State.respond_drv, hsame]
      exact TwiState.mayMove_self _
  | held r v hr => exact TwiState.mayMove_self _
  | issued payload hflag hready hlen => rw [hready]; rfl

/-- The end of a read-modify-write leaves the driver record. -/
theorem finishRmw_drv {r : Byte} {v : Half} {s t : State} (h : finishRmw r v s = .next t) :
    t.drv = s.drv := by
  unfold finishRmw at h
  split at h <;> obtain rfl := Host.Outcome.next.inj h <;> rfl

/-- The wait, and the return from it, leave the driver record. -/
theorem awaitWrite_drv {s t : State} (h : awaitWrite s = .next t) : t.drv = s.drv := by
  unfold awaitWrite at h
  split at h <;> obtain rfl := Host.Outcome.next.inj h <;> rfl

theorem foreground_mayMove {s t : State} (hs : s.Inv) (h : foreground s = .next t) :
    s.drv.state.mayMove t.drv.state = true := by
  rcases foreground_cases s with ⟨-, -, hf⟩ | ⟨q, hidle, -, hf⟩ | ⟨r, v, -, hf⟩ | ⟨-, hf⟩ <;>
    rw [hf] at h
  · exact Host.Outcome.next.inj h ▸ TwiState.mayMove_self _
  · rcases takeRequest_cases h with ⟨e, rfl⟩ | ⟨i, -, hout⟩
    · exact TwiState.mayMove_self _
    · exact hout.mayMove (hs.notTransmitting (by simp [hidle]))
  · exact finishRmw_drv h ▸ TwiState.mayMove_self _
  · exact awaitWrite_drv h ▸ TwiState.mayMove_self _

/-- The TWI handler leaves the driver's state, or hands the record back. -/
theorem twiHandler_drv_state (s : State) :
    (twiHandler s).drv.state = s.drv.state ∨ (twiHandler s).drv.state = .ready := by
  have hnext : (sendNextOrStop s).drv.state = s.drv.state ∨
      (sendNextOrStop s).drv.state = .ready := by
    rcases sendNextOrStop_cases s with ⟨-, h⟩ | ⟨-, h⟩ <;> rw [h]
    · exact .inl rfl
    · exact .inr rfl
  rw [twiHandler_eq]
  split
  case h_1 | h_2 | h_9 => exact .inl rfl
  case h_3 | h_4 => exact hnext
  all_goals exact .inr rfl

theorem execIrqTwi_mayMove {s t : State} (h : exec .irqTwi s = .next t) :
    s.drv.state.mayMove t.drv.state = true := by
  rcases execIrqTwi_cases s with ⟨-, hex⟩ | ⟨-, hex⟩ <;>
    obtain rfl := Host.Outcome.next.inj (hex.symm.trans h)
  · rcases twiHandler_drv_state (s.irqEntry .twi) with hd | hd <;>
      rw [State.takeInterrupt, State.irqReturn_drv, hd]
    · exact TwiState.mayMove_self _
    · exact TwiState.mayMove_to_ready _
  · exact TwiState.mayMove_self _

/-- Settles O16: the foreground and the TWI event move the state as R45 lists, and no other agent
writes it. -/
theorem twiStateMovesOnlyAsListed : Obligations.TwiStateMovesOnlyAsListed := by
  intro s t hs h
  obtain ⟨-, -, hrun⟩ := (step_next_iff s t).1 h
  by_cases hf : s.turn = .foreground
  · rw [hf] at hrun
    simpa using foreground_mayMove hs.afterTurn hrun
  · by_cases hw : s.turn = .takeTwi
    · rw [hw] at hrun
      simpa using execIrqTwi_mayMove hrun
    · rw [runTurn_drv hf hw hrun]
      exact TwiState.mayMove_self _

/-! ## Placing an instruction -/

/-- The request placed at position `k` is there. -/
theorem placeRequest_getElem? (program : List Request) (k : Nat) (q : Request) :
    (placeRequest program k q)[k]? = some q := by
  have hlen : (program.take k ++ List.replicate (k - program.length) q).length = k := by
    simp only [List.length_append, List.length_take, List.length_replicate]
    omega
  rw [placeRequest, List.getElem?_append_right hlen.le, hlen]
  simp

/-- A placed request is the next one that the foreground takes. -/
theorem State.withRequest_request (s : State) (q : Request) :
    (s.withRequest q).request = some q :=
  placeRequest_getElem? _ _ q

/-- A placed request that decodes is run by the next step. -/
theorem step_withRequest {s : State} {q : Request} {i : Instr} (hwf : s.cfg.wf = true)
    (hdec : decodeRequest s.cfg.toWidths q = .ok i) :
    step (s.withRequest q) = exec i (s.withRequest q).afterTurn := by
  obtain ⟨-, hfg, -⟩ := stepRunsDecodedInstruction (s.withRequest q) rfl hwf
  exact hfg q i rfl rfl (s.withRequest_request q) hdec

/-- A placed timer event may be taken: under a fixed order no TWI event goes first. -/
theorem State.withTimerEvent_mayTake (s : State) : s.withTimerEvent.mayTake .timer = true := by
  cases h : s.cfg.irqPriority == .twiFirst <;>
    simp [State.withTimerEvent, State.mayTake, State.timerReady, State.twiReady, State.withTurn, h]

/-- A placed TWI event may be taken, whatever its status: under a fixed order no timer event goes
first. -/
theorem State.withTwiEvent_mayTake (s : State) : s.withTwiEvent.mayTake .twi = true := by
  cases h : s.cfg.irqPriority == .timerFirst <;>
    simp [State.withTwiEvent, State.mayTake, State.timerReady, State.twiReady, State.withTurn, h]

/-- An eight-bit table word is an event, which is placed as such, or a status class, which is placed
as the status of a TWI event. -/
theorem withFetchWord_of_le_eight {nbits w : Nat} {i : Instr} (s : State) (h8 : nbits ≤ 8)
    (hdec : decodeTableWord nbits w = some i) :
    (i = .irqTimer ∧ s.withFetchWord nbits w = s.withTimerEvent) ∨
    (i = .irqTwi ∧ s.withFetchWord nbits w = s.withTwiEvent) ∨
    ∃ c, i = instrOfClass c ∧ s.withFetchWord nbits w = s.withStatus c := by
  simp only [decodeTableWord, if_pos h8] at hdec
  simp only [State.withFetchWord, State.placeTableWord, if_pos h8]
  by_cases ht : BitVec.ofNat 8 w = 0xF0#8
  · have hev : decodeEvent (BitVec.ofNat 8 w) = .ok .irqTimer := by rw [ht]; rfl
    rw [hev] at hdec ⊢
    exact .inl ⟨(Option.some.inj hdec).symm, rfl⟩
  · by_cases hw : BitVec.ofNat 8 w = 0xF1#8
    · have hev : decodeEvent (BitVec.ofNat 8 w) = .ok .irqTwi := by rw [hw]; rfl
      rw [hev] at hdec ⊢
      exact .inr (.inl ⟨(Option.some.inj hdec).symm, rfl⟩)
    · have hev : decodeEvent (BitVec.ofNat 8 w) = .error .illegalOpcode := by
        rw [decodeEvent, if_neg ht, if_neg hw]
      rw [hev] at hdec ⊢
      exact .inr (.inr ⟨_, (Option.some.inj hdec).symm, rfl⟩)

/-- A longer table word that decodes is a request that decodes, which is placed. -/
theorem withFetchWord_of_gt_eight {nbits w : Nat} {i : Instr} (s : State) (h8 : 8 < nbits)
    (hdec : decodeTableWord nbits w = some i) :
    ∃ q, decodeRequest Widths.source q = .ok i ∧ s.withFetchWord nbits w = s.withRequest q := by
  simp only [decodeTableWord, if_neg (Nat.not_le.2 h8)] at hdec
  simp only [State.withFetchWord, State.placeTableWord, if_neg (Nat.not_le.2 h8)]
  refine ⟨_, ?_, rfl⟩
  split at hdec
  · next hq => rw [hq, Option.some.inj hdec]
  · cases hdec

/-- A handler branch is no event. -/
theorem instrOfClass_ne_event (c : StatusClass) :
    instrOfClass c ≠ .irqTimer ∧ instrOfClass c ≠ .irqTwi := by
  cases c <;> decide

/-- A step that takes the TWI event runs the branch of the status class between entry and return. -/
theorem step_withStatus {s : State} (hwf : s.cfg.wf = true) (c : StatusClass) :
    ∃ v, exec (instrOfClass c) ((s.withStatus c).afterTurn.irqEntry .twi) = .next v ∧
      step (s.withStatus c) = .next v.irqReturn := by
  obtain ⟨-, -, -, htwi⟩ := stepRunsDecodedInstruction (s.withStatus c) rfl hwf
  have hmay : (s.withStatus c).mayTake .twi = true := s.withTwiEvent_mayTake
  exact ⟨_, exec_instrOfClass ((s.withStatus c).afterTurn.irqEntry .twi),
    (htwi rfl).trans (if_pos hmay)⟩

/-- Settles O9: a request stands where the foreground takes its next one, and a placed event may be
taken. -/
theorem placedInstructionRunsNext : Obligations.PlacedInstructionRunsNext := by
  intro s nbits w i hwf hsource hdec
  rcases Nat.lt_or_ge 8 nbits with h8 | h8
  · obtain ⟨q, hq, hu⟩ := withFetchWord_of_gt_eight s h8 hdec
    refine ⟨fun _ => ?_, by omega, by omega, by omega⟩
    rw [hu]
    exact step_withRequest hwf (hsource ▸ hq)
  · rcases withFetchWord_of_le_eight s h8 hdec with ⟨rfl, hu⟩ | ⟨rfl, hu⟩ | ⟨c, rfl, hu⟩ <;> rw [hu]
    · obtain ⟨-, -, htimer, -⟩ := stepRunsDecodedInstruction s.withTimerEvent rfl hwf
      exact ⟨by omega, fun _ _ => ⟨s.withTimerEvent_mayTake, htimer rfl⟩, by simp, by simp⟩
    · obtain ⟨-, -, -, htwi⟩ := stepRunsDecodedInstruction s.withTwiEvent rfl hwf
      exact ⟨by omega, by simp, fun _ _ => ⟨s.withTwiEvent_mayTake, htwi rfl⟩, by simp⟩
    · obtain ⟨hnt, hnw⟩ := instrOfClass_ne_event c
      exact ⟨by omega, fun _ hi => absurd hi hnt, fun _ hi => absurd hi hnw,
        fun _ _ _ => step_withStatus hwf c⟩


/-! ## The trace is never read

A meaning is blind to the trace when from a state with an older trace put before its own it answers
what it answers from the state itself, the older trace put before that. -/

/-- The state with an older trace before its own. -/
def State.withOlder (older : List BusSymbol) (s : State) : State :=
  { s with trace := older ++ s.trace }

/-- A change of the state that a result answers. -/
def mapNext (f : State → State) : Result → Result
  | .next s => .next (f s)
  | .fault r => .fault r
  | .refused r => .refused r

/-- What does not read the trace (R33, R221). -/
def TraceBlind (f : State → Result) : Prop :=
  ∀ (older : List BusSymbol) (s : State),
    f (s.withOlder older) = mapNext (State.withOlder older) (f s)

/-- A decision is made before or after the older trace is put on. -/
theorem mapNext_ite (f : State → State) (c : Prop) [Decidable c] (a b : Result) :
    mapNext f (if c then a else b) = if c then mapNext f a else mapNext f b :=
  apply_ite _ _ _ _

@[simp] theorem State.withOlder_desc (o : List BusSymbol) (s : State) (r : Byte) :
    (s.withOlder o).desc r = s.desc r := rfl
@[simp] theorem State.withOlder_resolveReg (o : List BusSymbol) (s : State) (r : Byte) :
    (s.withOlder o).resolveReg r = s.resolveReg r := rfl
@[simp] theorem State.withOlder_resolveBits (o : List BusSymbol) (s : State) (r : Byte) (m : Half)
    (need : Access) : (s.withOlder o).resolveBits r m need = s.resolveBits r m need := rfl
@[simp] theorem State.withOlder_cfg (o : List BusSymbol) (s : State) :
    (s.withOlder o).cfg = s.cfg := rfl
@[simp] theorem State.withOlder_core (o : List BusSymbol) (s : State) :
    (s.withOlder o).core = s.core := rfl
@[simp] theorem State.withOlder_per (o : List BusSymbol) (s : State) :
    (s.withOlder o).per = s.per := rfl
@[simp] theorem State.withOlder_request (o : List BusSymbol) (s : State) :
    (s.withOlder o).request = s.request := rfl
@[simp] theorem State.withOlder_btns (o : List BusSymbol) (s : State) :
    (s.withOlder o).btns = s.btns := rfl
@[simp] theorem State.withOlder_twiCmd (o : List BusSymbol) (s : State) (c : TwiCommand) :
    (s.withOlder o).twiCmd c = (s.twiCmd c).withOlder o := by
  simp [State.withOlder, State.twiCmd]

/-! ### Requests -/

theorem execRegSetRaw_traceBlind (r : Byte) (v : Half) : TraceBlind (execRegSetRaw r v) := by
  intro o s
  simp only [execRegSetRaw, State.withOlder_resolveReg]
  cases s.resolveReg r with
  | error e => rfl
  | ok d => rw [mapNext_ite]; rfl

theorem execRegGet_traceBlind (r : Byte) : TraceBlind (execRegGet r) := by
  intro o s
  simp only [execRegGet, State.withOlder_resolveReg]
  cases s.resolveReg r <;> rfl

theorem execRegSetBits_traceBlind (r : Byte) (m : Half) : TraceBlind (execRegSetBits r m) := by
  intro o s
  simp only [execRegSetBits, State.withOlder_resolveBits]
  cases s.resolveBits r m .write <;> rfl

theorem execRegClearBits_traceBlind (r : Byte) (m : Half) : TraceBlind (execRegClearBits r m) := by
  intro o s
  simp only [execRegClearBits, State.withOlder_resolveBits]
  cases s.resolveBits r m .write <;> rfl

theorem execRegReadBits_traceBlind (r : Byte) (m : Half) : TraceBlind (execRegReadBits r m) := by
  intro o s
  simp only [execRegReadBits, State.withOlder_resolveBits]
  cases s.resolveBits r m .read <;> rfl

theorem finishRmw_traceBlind (r : Byte) (v : Half) : TraceBlind (finishRmw r v) := by
  intro o s
  simp only [finishRmw, State.withOlder_desc]
  cases s.desc r <;> rfl

theorem execPinConfigure_traceBlind (p : PinId) (mode : PinMode) :
    TraceBlind (execPinConfigure p mode) := by
  intro o s
  simp only [execPinConfigure, mapNext_ite]
  rfl

theorem driveLatch_withOlder (p : PinId) (b : Bool) (o : List BusSymbol) (s : State) :
    driveLatch p b (s.withOlder o) = (driveLatch p b s).withOlder o := by
  simp only [driveLatch, apply_ite (State.withOlder o)]
  rfl

theorem execClkInit_traceBlind : TraceBlind execClkInit := by
  intro o s
  simp only [execClkInit, mapNext_ite]
  rfl

theorem execClkNow_traceBlind : TraceBlind execClkNow := by
  intro o s
  simp only [execClkNow, mapNext_ite]
  rfl

theorem execClkDrop_traceBlind : TraceBlind execClkDrop := by
  intro o s
  simp only [execClkDrop, mapNext_ite]
  rfl

theorem execTwiInit_traceBlind : TraceBlind execTwiInit := by
  intro o s
  simp only [execTwiInit, mapNext_ite]
  rfl

theorem execTwiSetAddress_traceBlind (addr : Byte) : TraceBlind (execTwiSetAddress addr) := by
  intro o s
  simp only [execTwiSetAddress, mapNext_ite]
  rfl

theorem issueWrite_withOlder (payload : List Byte) (o : List BusSymbol) (s : State) :
    issueWrite payload (s.withOlder o) = (issueWrite payload s).withOlder o := by
  simp [issueWrite, State.withOlder, State.twiCmd, State.setFg]

theorem execTwiWrite_traceBlind (payload : List Byte) : TraceBlind (execTwiWrite payload) := by
  intro o s
  simp only [execTwiWrite, mapNext_ite, issueWrite_withOlder]
  rfl

theorem awaitWrite_traceBlind : TraceBlind awaitWrite := by
  intro o s
  simp only [awaitWrite, mapNext_ite]
  rfl

theorem execTwiDrop_traceBlind : TraceBlind execTwiDrop := by
  intro o s
  simp only [execTwiDrop, mapNext_ite]
  rfl

theorem execBtnNew_traceBlind (p : PinId) : TraceBlind (execBtnNew p) := by
  intro o s
  simp only [execBtnNew, mapNext_ite]
  rfl

theorem execBtnUpdate_traceBlind (k : Byte) (now : Instant) : TraceBlind (execBtnUpdate k now) := by
  intro o s
  simp only [execBtnUpdate, State.withOlder_btns]
  cases s.btns[k.toNat]? <;> rfl

theorem execBtnWasPressed_traceBlind (k : Byte) : TraceBlind (execBtnWasPressed k) := by
  intro o s
  simp only [execBtnWasPressed, State.withOlder_btns]
  cases s.btns[k.toNat]? <;> rfl

/-! ### Events -/

theorem sendNextOrStop_withOlder (o : List BusSymbol) (s : State) :
    sendNextOrStop (s.withOlder o) = (sendNextOrStop s).withOlder o := by
  rw [sendNextOrStop, sendNextOrStop, apply_ite (State.withOlder o)]
  exact ite_congr rfl
    (fun _ => State.withOlder_twiCmd o { s with drv := { s.drv with rd := s.drv.rd + 1 } } _)
    (fun _ => congrArg handBack (State.withOlder_twiCmd o s .stop))

theorem failWith_withOlder (e : TwiError) (c : TwiCommand) (o : List BusSymbol) (s : State) :
    failWith e c (s.withOlder o) = (failWith e c s).withOlder o :=
  congrArg handBack (State.withOlder_twiCmd o { s with drv := { s.drv with err := e } } c)

theorem sendAddress_withOlder (o : List BusSymbol) (s : State) :
    sendAddress (s.withOlder o) = (sendAddress s).withOlder o :=
  State.withOlder_twiCmd o s _

theorem twiHandler_withOlder (o : List BusSymbol) (s : State) :
    twiHandler (s.withOlder o) = (twiHandler s).withOlder o := by
  simp only [twiHandler_eq, State.withOlder_per]
  cases s.per.status with
  | start | repStart => exact sendAddress_withOlder o s
  | slaAck | dataAck => exact sendNextOrStop_withOlder o s
  | slaNack | dataNack | arbLost | busError => exact failWith_withOlder _ _ o s
  | other => exact State.withOlder_twiCmd o s _

theorem execIrqTimer_traceBlind : TraceBlind execIrqTimer := by
  intro o s
  simp only [execIrqTimer, mapNext_ite]
  rfl

theorem execIrqTwi_traceBlind : TraceBlind execIrqTwi := by
  intro o s
  rw [execIrqTwi, execIrqTwi, mapNext_ite]
  have htaken := congrArg State.irqReturn (twiHandler_withOlder o (s.irqEntry .twi))
  exact ite_congr rfl (fun _ => congrArg Host.Outcome.next htaken) (fun _ => rfl)

/-- No instruction reads the trace. -/
theorem exec_traceBlind (i : Instr) : TraceBlind (exec i) := by
  cases i with
  | regSetRaw r v => exact execRegSetRaw_traceBlind r v
  | regGet r => exact execRegGet_traceBlind r
  | regSetBits r m => exact execRegSetBits_traceBlind r m
  | regClearBits r m => exact execRegClearBits_traceBlind r m
  | regReadBits r m => exact execRegReadBits_traceBlind r m
  | pinConfigure p mode => exact execPinConfigure_traceBlind p mode
  | pinSetHigh p => exact fun o s => congrArg Host.Outcome.next (driveLatch_withOlder p true o s)
  | pinSetLow p => exact fun o s => congrArg Host.Outcome.next (driveLatch_withOlder p false o s)
  | pinToggle p =>
    exact fun o s => congrArg Host.Outcome.next (driveLatch_withOlder p (!(s.pin p).latch) o s)
  | clkInit => exact execClkInit_traceBlind
  | clkNow => exact execClkNow_traceBlind
  | clkDrop => exact execClkDrop_traceBlind
  | twiInit => exact execTwiInit_traceBlind
  | twiSetAddress addr => exact execTwiSetAddress_traceBlind addr
  | twiWrite payload => exact execTwiWrite_traceBlind payload
  | twiDrop => exact execTwiDrop_traceBlind
  | btnNew p => exact execBtnNew_traceBlind p
  | btnUpdate k now => exact execBtnUpdate_traceBlind k now
  | btnWasPressed k => exact execBtnWasPressed_traceBlind k
  | pinRead | instantElapsed | csEnter | csExit | intEnable | intDisable => exact fun _ _ => rfl
  | irqTimer => exact execIrqTimer_traceBlind
  | irqTwi => exact execIrqTwi_traceBlind
  | twiStatusStart | twiStatusRepStart =>
    exact fun o s => congrArg Host.Outcome.next (sendAddress_withOlder o s)
  | twiStatusSlaAck | twiStatusDataAck =>
    exact fun o s => congrArg Host.Outcome.next (sendNextOrStop_withOlder o s)
  | twiStatusSlaNack | twiStatusDataNack | twiStatusArbLost | twiStatusBusError =>
    exact fun o s => congrArg Host.Outcome.next (failWith_withOlder _ _ o s)
  | twiStatusOther => exact fun o s => congrArg Host.Outcome.next (State.withOlder_twiCmd o s _)

/-! ### The agents -/

theorem takeRequest_traceBlind (q : Request) : TraceBlind (takeRequest q) := by
  intro o s
  simp only [takeRequest, State.withOlder_cfg]
  cases decodeRequest s.cfg.toWidths q with
  | error e => rfl
  | ok i => exact exec_traceBlind i o s

theorem foreground_traceBlind : TraceBlind foreground := by
  intro o s
  simp only [foreground, State.withOlder_core, State.withOlder_request]
  cases s.core.fg with
  | idle =>
    cases s.request with
    | none => rfl
    | some q => exact takeRequest_traceBlind q o s
  | rmwWrite r v => exact finishRmw_traceBlind r v o s
  | twiWait => exact awaitWrite_traceBlind o s

theorem timerMatch_withOlder (o : List BusSymbol) (s : State) :
    timerMatch (s.withOlder o) = (timerMatch s).withOlder o := by
  simp only [timerMatch, apply_ite (State.withOlder o)]
  rfl

theorem twiReport_withOlder (w : Byte) (o : List BusSymbol) (s : State) :
    twiReport w (s.withOlder o) = (twiReport w s).withOlder o := by
  simp only [twiReport, State.withOlder_cfg, State.withOlder_per, apply_ite (State.withOlder o)]
  refine ite_congr rfl (fun _ => ?_) (fun _ => rfl)
  cases s.cfg.twiEnv with
  | unconstrained => rfl
  | conforming =>
    dsimp only
    cases conformingPhase s.per.out s.per.phase (classOfStatus s.cfg.statusMap w) <;> rfl

theorem pinDrive_withOlder (p : PinId) (l : ExtLevel) (o : List BusSymbol) (s : State) :
    pinDrive p l (s.withOlder o) = (pinDrive p l s).withOlder o := by
  simp only [pinDrive, apply_ite (State.withOlder o)]
  rfl

/-- No agent reads the trace. -/
theorem runTurn_traceBlind (turn : Turn) : TraceBlind (runTurn turn) := by
  cases turn with
  | foreground => exact foreground_traceBlind
  | takeTimer => exact execIrqTimer_traceBlind
  | takeTwi => exact execIrqTwi_traceBlind
  | timerMatch => exact fun o s => congrArg Host.Outcome.next (timerMatch_withOlder o s)
  | twiReport w => exact fun o s => congrArg Host.Outcome.next (twiReport_withOlder w o s)
  | pinDrive p l => exact fun o s => congrArg Host.Outcome.next (pinDrive_withOlder p l o s)

/-- Settles O18: whether a step is made, and whose it is, does not depend on the trace, and no agent
reads it. -/
theorem traceIsNeverRead : Obligations.TraceIsNeverRead := by
  intro s t older h
  obtain ⟨hrefused, hwf, hrun⟩ := (step_next_iff s t).1 h
  refine (step_next_iff (s.withOlder older) (t.withOlder older)).2 ⟨hrefused, hwf, ?_⟩
  have hblind := runTurn_traceBlind s.turn older s.afterTurn
  rw [hrun] at hblind
  exact hblind

/-! ## Answers of the requests -/

/-- A draw advances the count of draws alone. -/
theorem State.afterDraw_frame (s : State) : UnchangedBut [.draws] s s.afterDraw := by
  intro p hp; cases p <;> simp_all [Part.agree, State.pin]

/-- A new phase of the foreground changes the phase alone. -/
theorem State.setFg_frame (s : State) (f : FgPhase) : UnchangedBut [.fg] s (s.setFg f) := by
  intro p hp; cases p <;> simp_all [Part.agree, State.pin]

/-- Setting the enable changes the enable alone. -/
theorem State.setIe_frame (s : State) (b : Bool) : UnchangedBut [.ie] s (s.setIe b) := by
  intro p hp; cases p <;> simp_all [Part.agree, State.pin]

/-- A value to be written back is held after one draw (R106). -/
theorem State.held_frame (s : State) (f : FgPhase) :
    UnchangedBut [.fg, .draws] s (s.afterDraw.setFg f) :=
  (s.afterDraw_frame.trans (s.afterDraw.setFg_frame f)).mono (by simp)

/-- An answer given after one draw. -/
theorem State.drawn_frame (s : State) (c : RespCode) (x : Half) :
    UnchangedBut [.next, .responses, .draws] s (s.afterDraw.respond c x) :=
  (s.afterDraw_frame.respond c x).mono (by simp)

/-! ### Registers -/

section
variable {s : State} {r : Byte} {m : Half} {d : RegDesc}

/-- A register of no owner is resolved (R102). -/
theorem State.resolveReg_of_free (hd : s.desc r = some d) (hfree : d.owner = .free) :
    s.resolveReg r = .ok d :=
  (s.resolveReg_ok_iff r d).2 ⟨hd, hfree⟩

/-- A well-formed Bit-set that its capability admits is resolved (R102, R103). -/
theorem State.resolveBits_of_allows {need : Access} (hd : s.desc r = some d)
    (hfree : d.owner = .free) (hwf : bitSetWf d m = true)
    (hcap : (combinedCap d m).allows need = true) : s.resolveBits r m need = .ok d :=
  (s.resolveBits_ok_iff r m need d).2 ⟨State.resolveReg_of_free hd hfree, hwf, hcap⟩

theorem exec_regGet_of_resolved (h : s.resolveReg r = .ok d) :
    exec (.regGet r) s = .next (s.afterDraw.respond .ok (s.readReg d)) := by
  change execRegGet r s = _
  simp only [execRegGet, h]

theorem exec_regReadBits_of_resolved (h : s.resolveBits r m .read = .ok d) :
    exec (.regReadBits r m) s = .next (s.afterDraw.respond .ok (s.readReg d &&& m)) := by
  change execRegReadBits r m s = _
  simp only [execRegReadBits, h]

theorem exec_regSetBits_of_resolved (h : s.resolveBits r m .write = .ok d) :
    exec (.regSetBits r m) s = .next (s.afterDraw.setFg (.rmwWrite r (s.readReg d ||| m))) := by
  change execRegSetBits r m s = _
  simp only [execRegSetBits, h]

theorem exec_regClearBits_of_resolved (h : s.resolveBits r m .write = .ok d) :
    exec (.regClearBits r m) s =
      .next (s.afterDraw.setFg (.rmwWrite r (s.readReg d &&& ~~~m))) := by
  change execRegClearBits r m s = _
  simp only [execRegClearBits, h]

end

/-- Settles O44: both answers are the register read, and a read is decided bit by bit. -/
theorem registerReadsAnswerByReadKind : Obligations.RegisterReadsAnswerByReadKind := by
  intro s r m d hd hfree
  have hread (i : Nat) (hi : i < 16) := readValue_getLsbD d (s.stored d) s.drawn i hi
  refine ⟨⟨_, _, exec_regGet_of_resolved (State.resolveReg_of_free hd hfree),
    s.afterDraw.respond_responded _ _, hread, s.drawn_frame _ _⟩, fun hwf hcap => ?_⟩
  refine ⟨_, _, exec_regReadBits_of_resolved (State.resolveBits_of_allows hd hfree hwf hcap),
    s.afterDraw.respond_responded _ _, fun i hi => ?_, s.drawn_frame _ _⟩
  have hmember : (s.readReg d &&& m).getLsbD i =
      (m.getLsbD i && (readValue d (s.stored d) s.drawn).getLsbD i) := by
    rw [BitVec.getLsbD_and, Bool.and_comm, State.readReg]
  exact hmember.trans (congrArg (m.getLsbD i && ·) (hread i hi))

/-- Settles O45: the value held is the register read, with the members set or cleared. -/
theorem readModifyWriteHoldsTheNewValue : Obligations.ReadModifyWriteHoldsTheNewValue := by
  intro s r m d hd hfree hwf hcap
  have hres : s.resolveBits r m .write = .ok d := State.resolveBits_of_allows hd hfree hwf hcap
  refine ⟨⟨_, _, exec_regSetBits_of_resolved hres, rfl, fun i _ => ?_, s.held_frame _⟩,
    ⟨_, _, exec_regClearBits_of_resolved hres, rfl, fun i hi => ?_, s.held_frame _⟩⟩
  · rw [BitVec.getLsbD_or, Bool.or_comm, State.readReg]
  · rw [BitVec.getLsbD_and, BitVec.getLsbD_not, Bool.and_comm, State.readReg]
    simp [hi]

/-! ### Bit-sets -/

/-- The members of a Bit-set are the positions with a 1. -/
theorem mem_members_iff (m : Half) (i : Nat) : i ∈ members m ↔ m.getLsbD i = true := by
  simp only [members, List.mem_filter, List.mem_range, and_iff_right_iff_imp]
  exact BitVec.lt_of_getLsbD

theorem bitSetWf_iff (d : RegDesc) (m : Half) :
    bitSetWf d m = true ↔
      m ≠ 0#16 ∧ ∀ i, m.getLsbD i = true → i < d.width.bits ∧ d.decl i ≠ .undeclared := by
  simp [bitSetWf, mem_members_iff]

theorem combinedCap_readable_iff (d : RegDesc) (m : Half) :
    (combinedCap d m).readable = true ↔
      ∀ i, m.getLsbD i = true → (d.decl i).readable = true := by
  simp [combinedCap, capAt, mem_members_iff]

theorem combinedCap_writable_iff (d : RegDesc) (m : Half) :
    (combinedCap d m).writable = true ↔
      ∀ i, m.getLsbD i = true → (d.decl i).writable = true := by
  simp [combinedCap, capAt, mem_members_iff]

/-- What is declared read-only or read-write can be read (R43). -/
theorem BitDecl.readable_iff (b : BitDecl) :
    b.readable = true ↔ ∃ k, b = .declared .ro k ∨ b = .declared .rw k := by
  rcases b with - | ⟨cap, kind⟩
  · simp [BitDecl.readable]
  · cases cap <;> simp [BitDecl.readable]

/-- What is declared write-only or read-write can be written (R43). -/
theorem BitDecl.writable_iff (b : BitDecl) :
    b.writable = true ↔ ∃ k, b = .declared .wo k ∨ b = .declared .rw k := by
  rcases b with - | ⟨cap, kind⟩
  · simp [BitDecl.writable]
  · cases cap <;> simp [BitDecl.writable]

/-- A union needs what both its sets need. -/
theorem combinedCap_or (d : RegDesc) (m n : Half) :
    combinedCap d (m ||| n) = (combinedCap d m).meet (combinedCap d n) := by
  have hr : (combinedCap d (m ||| n)).readable =
      ((combinedCap d m).readable && (combinedCap d n).readable) := by
    rw [Bool.eq_iff_iff, Bool.and_eq_true]
    simp only [combinedCap_readable_iff, BitVec.getLsbD_or, Bool.or_eq_true, or_imp, forall_and]
  have hw : (combinedCap d (m ||| n)).writable =
      ((combinedCap d m).writable && (combinedCap d n).writable) := by
    rw [Bool.eq_iff_iff, Bool.and_eq_true]
    simp only [combinedCap_writable_iff, BitVec.getLsbD_or, Bool.or_eq_true, or_imp, forall_and]
  exact congrArg₂ Capability.mk hr hw

/-- A write-only and a read-only member leave a Bit-set with no capability (R103). -/
theorem combinedCap_of_wo_of_ro {d : RegDesc} {m : Half} {i j : Nat} {k l : ReadKind}
    (hi : m.getLsbD i = true) (hwo : d.decl i = .declared .wo k) (hj : m.getLsbD j = true)
    (hro : d.decl j = .declared .ro l) : combinedCap d m = ⟨false, false⟩ := by
  have hr : (combinedCap d m).readable = false := by
    rw [Bool.eq_false_iff, ne_eq, combinedCap_readable_iff]
    exact fun h => by simpa [hwo, BitDecl.readable] using h i hi
  have hw : (combinedCap d m).writable = false := by
    rw [Bool.eq_false_iff, ne_eq, combinedCap_writable_iff]
    exact fun h => by simpa [hro, BitDecl.writable] using h j hj
  exact congrArg₂ Capability.mk hr hw

/-- Settles O49, clause by clause: every check of a Bit-set is a check of each of its members. -/
theorem combinedBitSetIsMostRestrictive : Obligations.CombinedBitSetIsMostRestrictive :=
  fun d x _ =>
    ⟨bitSetWf_iff d x.mask, combinedCap_readable_iff d x.mask, combinedCap_writable_iff d x.mask,
      fun i => BitDecl.readable_iff (d.decl i), fun i => BitDecl.writable_iff (d.decl i),
      fun h => if_pos h, fun h => if_neg h, combinedCap_or d _ _,
      fun _ _ _ _ hi hwo hj hro => combinedCap_of_wo_of_ro hi hwo hj hro⟩

/-! ### Buttons -/

/-- Configuring a pin changes the pins alone. -/
theorem State.pinConfigure_frame (s : State) (p : PinId) (mode : PinMode) :
    UnchangedBut [.pins] s (s.pinConfigure p mode) := by
  intro q hq; cases q <;> simp_all [Part.agree]

/-- A new list of Buttons changes the Buttons alone. -/
theorem btns_frame (s : State) (bs : List Button) :
    UnchangedBut [.btns] s { s with btns := bs } := by
  intro p hp; cases p <;> simp_all [Part.agree, State.pin]

section
variable {s : State} {p : PinId}

/-- `BTN_NEW` makes a Button where there is room, on a pin with no Button that is not owned. -/
theorem exec_btnNew_of_free (hroom : s.nBtn < s.cfg.maxButtons) (hfree : ∀ b ∈ s.btns, b.pin ≠ p)
    (howned : s.ownsPin p = false) :
    exec (.btnNew p) s =
      .next (State.respond
        { s.pinConfigure p .inputPullup with btns := s.btns ++ [newButton s.cfg p] } .ok
        (BitVec.ofNat 16 s.nBtn)) := by
  change execBtnNew p s = _
  simp [execBtnNew, Nat.not_le.2 hroom, (s.pinHasButton_eq_false_iff p).2 hfree, howned]

/-- Without room, or on a pin with a Button, the selector is bad. -/
theorem exec_btnNew_of_taken (h : s.cfg.maxButtons ≤ s.nBtn ∨ ∃ b ∈ s.btns, b.pin = p) :
    exec (.btnNew p) s = .next (s.refuse .badSelector) := by
  change execBtnNew p s = _
  unfold execBtnNew
  split
  · rfl
  · next hroom =>
    obtain ⟨b, hb, hpin⟩ := h.resolve_left hroom
    have hhas : s.pinHasButton p = true := by
      rw [State.pinHasButton, List.any_eq_true]
      exact ⟨b, hb, beq_iff_eq.2 hpin⟩
    rw [if_pos hhas]

/-- A pin of the driver is refused after the selector. -/
theorem exec_btnNew_of_owned (hroom : s.nBtn < s.cfg.maxButtons) (hfree : ∀ b ∈ s.btns, b.pin ≠ p)
    (howned : s.ownsPin p = true) : exec (.btnNew p) s = .next (s.refuse .ownedPin) := by
  change execBtnNew p s = _
  simp [execBtnNew, Nat.not_le.2 hroom, (s.pinHasButton_eq_false_iff p).2 hfree, howned]

end

/-- Settles O54: the checks of R180 decide, in their order, between the three clauses. -/
theorem btnNewCreatesAButton : Obligations.BtnNewCreatesAButton := by
  intro s p
  refine ⟨fun hroom hfree howned => ?_,
    fun h => ⟨_, exec_btnNew_of_taken h, s.refuse_refusedWith _⟩,
    fun hroom hfree howned => ⟨_, exec_btnNew_of_owned hroom hfree howned, s.refuse_refusedWith _⟩⟩
  have hpin : (s.pinConfigure p .inputPullup).pin p = ⟨.inputPullup, true, (s.pin p).ext⟩ :=
    s.pin_pinConfigure_same p .inputPullup
  have hframe := ((s.pinConfigure_frame p .inputPullup).trans
    (btns_frame (s.pinConfigure p .inputPullup) (s.btns ++ [newButton s.cfg p]))).respond .ok
      (BitVec.ofNat 16 s.nBtn)
  exact ⟨_, exec_btnNew_of_free hroom hfree howned, rfl, congrArg Pin.mode hpin,
    congrArg Pin.latch hpin, (congrArg Pin.ext hpin :), fun q hq => s.pin_pinConfigure_ne _ hq,
    ⟨rfl, rfl⟩, hframe.mono (by simp)⟩

/-! ### Interrupt control -/

/-- A request that sets the enable and ends. -/
theorem State.setIe_respond_frame (s : State) (b : Bool) (c : RespCode) (x : Half) :
    UnchangedBut [.ie, .next, .responses] s ((s.setIe b).respond c x) :=
  (s.setIe_frame b).respond c x

/-- Settles O57: each of the four requests sets the enable and responds. -/
theorem interruptControlSetsTheEnable : Obligations.InterruptControlSetsTheEnable := fun s token =>
  ⟨⟨_, rfl, rfl, ⟨rfl, rfl⟩, s.setIe_respond_frame false _ _⟩,
    ⟨_, rfl, rfl, ⟨rfl, rfl⟩, s.setIe_respond_frame token _ _⟩,
    ⟨_, rfl, rfl, ⟨rfl, rfl⟩, s.setIe_respond_frame true _ _⟩,
    ⟨_, rfl, rfl, ⟨rfl, rfl⟩, s.setIe_respond_frame false _ _⟩⟩

end Sys2Proof.Machine

/-! PROOF. The statements of 20_memory.md: the two ways a value reaches the register address space,
`REG_SET_RAW` and the write-back of a read-modify-write. Both are one masked write (R101) followed by
the end of the request, so what is stored and what is left alone is said of the masked write. -/

namespace Sys2Proof.Machine

/-! ## The masked write -/

/-- A masked write changes the register address space alone. -/
theorem State.writeReg_frame (s : State) (d : RegDesc) (w : Half) :
    UnchangedBut [.mem] s (s.writeReg d w) := by
  intro p hp; cases p <;> simp_all [Part.agree, State.pin]

section
variable {s : State} {r : Byte} {v : Half} {d : RegDesc}

/-- A value that fits its register is written under the mask (R104). -/
theorem exec_regSetRaw_of_resolved (h : s.resolveReg r = .ok d) (hfits : valueTooWide d v = false) :
    exec (.regSetRaw r v) s = .next ((s.writeReg d v).respond .ok 0#16) := by
  change execRegSetRaw r v s = _
  simp [execRegSetRaw, h, hfits]

/-- A foreground that holds a value writes it under the mask and is idle again (R106). -/
theorem foreground_of_rmwWrite (hfg : s.core.fg = .rmwWrite r v) (hd : s.desc r = some d) :
    foreground s = .next (((s.writeReg d v).setFg .idle).respond .ok 0#16) := by
  simp only [foreground, hfg, finishRmw, hd]

end

/-- Settles O43: the request is resolved and its value fits, so it is one masked write. -/
theorem regSetRawWritesUnderTheMask : Obligations.RegSetRawWritesUnderTheMask := by
  intro s r v d hd hfree hfits hmem hwf
  have hrun := exec_regSetRaw_of_resolved (State.resolveReg_of_free hd hfree) hfits
  exact ⟨_, hrun, s.stored_writeReg d v hmem hwf, s.writeReg_byte_outside d v,
    State.respond_responded _ _ _, (s.writeReg_frame d v).respond _ _⟩

/-- Settles O46: the held value is one masked write, and the phase is idle before the response. -/
theorem readModifyWriteWritesBack : Obligations.ReadModifyWriteWritesBack := by
  intro s r v d hfg hd hmem hwf
  have hframe : UnchangedBut [.mem, .fg] s ((s.writeReg d v).setFg .idle) :=
    (s.writeReg_frame d v).trans ((s.writeReg d v).setFg_frame .idle)
  exact ⟨_, foreground_of_rmwWrite hfg hd, s.stored_writeReg d v hmem hwf, rfl,
    s.writeReg_byte_outside d v, ⟨rfl, rfl⟩, hframe.respond _ _⟩

end Sys2Proof.Machine

/-! PROOF. The statements of 30_encoding.md: the decoder's first three checks (R87 items 1 to 3) as one
order of checks over the table of R81, the two round trips of encoder and decoder, and the requests
that are refused by their meaning. -/

namespace Sys2Proof

/-! ## Masked request words -/

/-- The opcode of a masked word. -/
theorem opField_and (w m : ReqWord) : opField (w &&& m) = opField w &&& opField m :=
  BitVec.extractLsb'_and

/-- The selector of a masked word. -/
theorem selField_and (w m : ReqWord) : selField (w &&& m) = selField w &&& selField m :=
  BitVec.extractLsb'_and

/-- A word is 0 exactly when its four fields are. -/
theorem word_eq_zero_iff (w : ReqWord) :
    w = 0#48 ↔ opField w = 0#8 ∧ selField w = 0#8 ∧ bField w = 0#16 ∧ aField w = 0#16 := by
  constructor
  · rintro rfl
    decide
  · rintro ⟨hop, hsel, hb, ha⟩
    rw [← requestWord_fields w, hop, hsel, hb, ha]
    rfl

/-- A masked word is 0 exactly when each of its fields is, masked by that field of the mask. -/
theorem and_requestWord_eq_zero_iff (w : ReqWord) (op sel : Byte) (b a : Half) :
    w &&& requestWord op sel b a = 0#48 ↔
      opField w &&& op = 0#8 ∧ selField w &&& sel = 0#8 ∧ bField w &&& b = 0#16 ∧
        aField w &&& a = 0#16 := by
  simp only [word_eq_zero_iff, opField_and, selField_and, bField_and, aField_and,
    opField_requestWord, selField_requestWord, bField_requestWord, aField_requestWord]

/-- Where the bits of an operand from `n` on are 0, each of them is. -/
theorem getLsbD_of_upper_eq_zero {a : Half} {n i : Nat} (h : a.extractLsb' n (16 - n) = 0)
    (hi : n ≤ i) : a.getLsbD i = false := by
  by_cases hlt : i < 16
  · have hbit := congrArg (BitVec.getLsbD · (i - n)) h
    have hwidth : i - n < 16 - n := by omega
    have hadd : n + (i - n) = i := by omega
    simpa [hwidth, hadd] using hbit
  · exact BitVec.getLsbD_of_ge a i (by omega)

/-- The upper bits of an operand, from bit `n` on, are 0 exactly when the operand masked to them is. -/
theorem and_upper_ones_eq_zero_iff (a : Half) (n : Nat) :
    a &&& (BitVec.allOnes 16 <<< n) = 0#16 ↔ a.extractLsb' n (16 - n) = 0 := by
  constructor <;> intro h <;> apply BitVec.eq_of_getLsbD_eq <;> intro i hi
  · have hbit := congrArg (BitVec.getLsbD · (n + i)) h
    have hlt : n + i < 16 := by omega
    have hle : i < 16 := by omega
    simpa [-BitVec.reduceAllOnes, hlt, hi, hle] using hbit
  · by_cases hin : i < n
    · simp [hin]
    · have hclear := getLsbD_of_upper_eq_zero h (Nat.le_of_not_lt hin)
      simp [-BitVec.getLsbD_eq_getElem, hclear]

/-! ### The masks of R81

The bits that must be 0, as conditions on the fields that the decoder looks at. -/

section
variable (w : ReqWord)

theorem and_zeroBits_b :
    w &&& 0x0000FFFF0000#48 = 0#48 ↔ bField w = 0#16 := by
  rw [show 0x0000FFFF0000#48 = requestWord 0#8 0#8 (BitVec.allOnes 16) 0#16 by decide,
    and_requestWord_eq_zero_iff]
  simp [-BitVec.reduceAllOnes]

theorem and_zeroBits_operands :
    w &&& 0x0000FFFFFFFF#48 = 0#48 ↔ bField w = 0#16 ∧ aField w = 0#16 := by
  rw [show 0x0000FFFFFFFF#48 =
      requestWord 0#8 0#8 (BitVec.allOnes 16) (BitVec.allOnes 16) by decide,
    and_requestWord_eq_zero_iff]
  simp [-BitVec.reduceAllOnes]

theorem and_zeroBits_pinConfigure :
    w &&& 0x0000FFFFFFFC#48 = 0#48 ↔
      bField w = 0#16 ∧ (aField w).extractLsb' 2 14 = 0#14 := by
  rw [show 0x0000FFFFFFFC#48 =
      requestWord 0#8 0#8 (BitVec.allOnes 16) (BitVec.allOnes 16 <<< 2) by decide,
    and_requestWord_eq_zero_iff]
  simp [-BitVec.reduceAllOnes, and_upper_ones_eq_zero_iff]

theorem and_zeroBits_sel :
    w &&& 0x00FF00000000#48 = 0#48 ↔ selField w = 0#8 := by
  rw [show 0x00FF00000000#48 = requestWord 0#8 (BitVec.allOnes 8) 0#16 0#16 by decide,
    and_requestWord_eq_zero_iff]
  simp [-BitVec.reduceAllOnes]

theorem and_zeroBits_twiSetAddress :
    w &&& 0x00FFFFFFFF00#48 = 0#48 ↔
      selField w = 0#8 ∧ bField w = 0#16 ∧ (aField w).extractLsb' 8 8 = 0#8 := by
  rw [show 0x00FFFFFFFF00#48 =
      requestWord 0#8 (BitVec.allOnes 8) (BitVec.allOnes 16)
        (BitVec.allOnes 16 <<< 8) by decide,
    and_requestWord_eq_zero_iff]
  simp [-BitVec.reduceAllOnes, and_upper_ones_eq_zero_iff]

theorem and_zeroBits_twiWrite :
    w &&& 0x00FFFFFF0000#48 = 0#48 ↔ selField w = 0#8 ∧ bField w = 0#16 := by
  rw [show 0x00FFFFFF0000#48 =
      requestWord 0#8 (BitVec.allOnes 8) (BitVec.allOnes 16) 0#16 by decide,
    and_requestWord_eq_zero_iff]
  simp [-BitVec.reduceAllOnes]

theorem and_zeroBits_csExit :
    w &&& 0x00FFFFFFFFFE#48 = 0#48 ↔
      selField w = 0#8 ∧ bField w = 0#16 ∧ (aField w).extractLsb' 1 15 = 0#15 := by
  rw [show 0x00FFFFFFFFFE#48 =
      requestWord 0#8 (BitVec.allOnes 8) (BitVec.allOnes 16)
        (BitVec.allOnes 16 <<< 1) by decide,
    and_requestWord_eq_zero_iff]
  simp [-BitVec.reduceAllOnes, and_upper_ones_eq_zero_iff]

theorem and_zeroBits_fields :
    w &&& 0x00FFFFFFFFFF#48 = 0#48 ↔
      selField w = 0#8 ∧ bField w = 0#16 ∧ aField w = 0#16 := by
  rw [show 0x00FFFFFFFFFF#48 =
      requestWord 0#8 (BitVec.allOnes 8) (BitVec.allOnes 16) (BitVec.allOnes 16) by decide,
    and_requestWord_eq_zero_iff]
  simp [-BitVec.reduceAllOnes]

end

/-! ## The order of the decoder's checks

Splits of the decoder have a case for each opcode, in the order of R81, and a last one for the rest;
here they are grouped by the fields that the opcode leaves free. -/

/-- What the decoder refuses a request for after items 1 to 3 of R87: its pin id or its mode. -/
def LaterChecks (k : Except RefuseReason Instr) : Prop :=
  ∀ e, k = .error e → e = .badSelector ∨ e = .badMode

theorem laterChecks_ok (i : Instr) : LaterChecks (.ok i) := fun _ h => by cases h

theorem laterChecks_withPin (g : Widths) (sel : Byte) {k : PinId → Except RefuseReason Instr}
    (hk : ∀ p, LaterChecks (k p)) : LaterChecks (withPin g sel k) := by
  unfold withPin
  cases pinOfSel g sel with
  | none => rintro e ⟨⟩; exact .inl rfl
  | some p => exact hk p

theorem laterChecks_pin (g : Widths) (sel : Byte) (i : PinId → Instr) :
    LaterChecks (withPin g sel fun p => .ok (i p)) :=
  laterChecks_withPin g sel fun p => laterChecks_ok (i p)

theorem laterChecks_pinConfigure (g : Widths) (sel : Byte) (mode : Option PinMode) :
    LaterChecks (withPin g sel fun p =>
      match mode with
      | none => .error .badMode
      | some mode => .ok (.pinConfigure p mode)) := by
  refine laterChecks_withPin g sel fun p => ?_
  cases mode with
  | none => rintro e ⟨⟩; exact .inr rfl
  | some mode => exact laterChecks_ok _

/-- Items 2 and 3 of R87, with the bits that must be 0 and the payload's length from the table of R81,
and then the later items. -/
def reservedThenPayload (q : Request) (k : Except RefuseReason Instr) : Except RefuseReason Instr :=
  checkThen (decide (q.word &&& Machine.zeroBits (opField q.word).toNat = 0#48)) .reservedField
    (checkThen (decide (q.payload.length = Machine.payloadLength q.word)) .badPayload k)

/-- A request other than `TWI_WRITE` has no payload. -/
theorem payloadLength_of_ne {w : ReqWord} (h : (opField w).toNat ≠ 0x32) :
    Machine.payloadLength w = 0 :=
  if_neg fun hop => h (by rw [hop]; rfl)

/-- A `TWI_WRITE` has a payload of `a` bytes. -/
theorem payloadLength_twiWrite {w : ReqWord} (h : (opField w).toNat = 0x32) :
    Machine.payloadLength w = (aField w).toNat :=
  if_pos (BitVec.eq_of_toNat_eq h)

/-- The decoder's two checks of a plain request are those of the table. -/
theorem plainRequest_eq {q : Request} {n : Nat} {zeros : Bool} (k : Except RefuseReason Instr)
    (hop : (opField q.word).toNat = n) (hn : n ≠ 0x32)
    (hz : q.word &&& Machine.zeroBits n = 0#48 ↔ zeros = true) :
    plainRequest zeros q.payload k = reservedThenPayload q k := by
  subst hop
  have hzeros : decide (q.word &&& Machine.zeroBits (opField q.word).toNat = 0#48) = zeros := by
    simp [hz]
  have hpl : decide (q.payload.length = Machine.payloadLength q.word) = q.payload.isEmpty := by
    rw [payloadLength_of_ne hn, Bool.eq_iff_iff]
    simp
  rw [reservedThenPayload, plainRequest, hzeros, hpl]

/-- The decoder's two checks of a `TWI_WRITE` are those of the table. -/
theorem twiWrite_eq {q : Request} (k : Except RefuseReason Instr)
    (hop : (opField q.word).toNat = 0x32) :
    checkThen (selField q.word == 0#8 && bField q.word == 0#16) .reservedField
      (checkThen (q.payload.length == (aField q.word).toNat) .badPayload k) =
        reservedThenPayload q k := by
  have hz : (selField q.word == 0#8 && bField q.word == 0#16) =
      decide (q.word &&& Machine.zeroBits 0x32 = 0#48) := by
    rw [Bool.eq_iff_iff, decide_eq_true_iff]
    exact ((and_zeroBits_twiWrite _).trans (by simp)).symm
  rw [reservedThenPayload, hop, payloadLength_twiWrite hop, hz]
  rfl

/-- A request with an assigned opcode is checked for its reserved bits, then for its payload, and only
then for anything else (R87). -/
theorem decodeRequest_of_assigned (g : Widths) (q : Request)
    (h : (opField q.word).toNat ∈ Machine.assignedOpcodes) :
    ∃ k, LaterChecks k ∧ decodeRequest g q = reservedThenPayload q k := by
  unfold decodeRequest
  split
  case h_1 hop | h_3 hop | h_4 hop | h_5 hop | h_20 hop =>
    exact ⟨_, laterChecks_ok _, plainRequest_eq _ hop (by decide)
      ((and_zeroBits_b _).trans (by simp))⟩
  case h_2 hop | h_21 hop =>
    exact ⟨_, laterChecks_ok _, plainRequest_eq _ hop (by decide)
      ((and_zeroBits_operands _).trans (by simp))⟩
  case h_6 hop =>
    exact ⟨_, laterChecks_pinConfigure g _ _, plainRequest_eq _ hop (by decide)
      ((and_zeroBits_pinConfigure _).trans (by simp))⟩
  case h_7 hop | h_8 hop | h_9 hop | h_10 hop | h_19 hop =>
    exact ⟨_, laterChecks_pin g _ _, plainRequest_eq _ hop (by decide)
      ((and_zeroBits_operands _).trans (by simp))⟩
  case h_13 hop =>
    exact ⟨_, laterChecks_ok _, plainRequest_eq _ hop (by decide)
      ((and_zeroBits_sel _).trans (by simp))⟩
  case h_16 hop =>
    exact ⟨_, laterChecks_ok _, plainRequest_eq _ hop (by decide)
      ((and_zeroBits_twiSetAddress _).trans (by simp [and_assoc]))⟩
  case h_17 hop => exact ⟨_, laterChecks_ok _, twiWrite_eq _ hop⟩
  case h_23 hop =>
    exact ⟨_, laterChecks_ok _, plainRequest_eq _ hop (by decide)
      ((and_zeroBits_csExit _).trans (by simp [and_assoc]))⟩
  case h_11 hop | h_12 hop | h_14 hop | h_15 hop | h_18 hop | h_22 hop | h_24 hop | h_25 hop =>
    exact ⟨_, laterChecks_ok _, plainRequest_eq _ hop (by decide)
      ((and_zeroBits_fields _).trans (by simp [and_assoc]))⟩
  case h_26 => simp_all [Machine.assignedOpcodes]

/-- An opcode that R81 does not assign is illegal (R88). -/
theorem decodeRequest_of_unassigned (g : Widths) (q : Request)
    (h : (opField q.word).toNat ∉ Machine.assignedOpcodes) :
    decodeRequest g q = .error .illegalOpcode := by
  unfold decodeRequest
  split
  case h_26 => rfl
  all_goals simp_all [Machine.assignedOpcodes]

/-- A check refuses for its own reason, or lets through to what refuses next. -/
theorem checkThen_eq_error_iff (ok : Bool) (e e' : RefuseReason) (k : Except RefuseReason Instr) :
    checkThen ok e k = .error e' ↔ (ok = false ∧ e = e') ∨ (ok = true ∧ k = .error e') := by
  cases ok <;> simp [checkThen]

/-- The later checks refuse for two reasons only. -/
theorem LaterChecks.ne_error {k : Except RefuseReason Instr} (hk : LaterChecks k) {e : RefuseReason}
    (he : e ≠ .badSelector ∧ e ≠ .badMode) : k ≠ .error e := fun h =>
  (hk e h).elim he.1 he.2

/-- Settles O4: with an assigned opcode every refusal is one of the later items. -/
theorem unassignedOpcodesAreIllegal : Obligations.UnassignedOpcodesAreIllegal := by
  refine fun g q => ⟨fun h hop => ?_, decodeRequest_of_unassigned g q⟩
  obtain ⟨k, hk, hdec⟩ := decodeRequest_of_assigned g q hop
  have hlater : k ≠ .error .illegalOpcode := hk.ne_error (by decide)
  simp [hdec, reservedThenPayload, checkThen_eq_error_iff, hlater] at h

/-- Settles O5: the reserved bits are the first check after the opcode. -/
theorem nonzeroReservedFieldIsRefused : Obligations.NonzeroReservedFieldIsRefused := by
  intro g q hop
  obtain ⟨k, hk, hdec⟩ := decodeRequest_of_assigned g q hop
  have hlater : k ≠ .error .reservedField := hk.ne_error (by decide)
  simp [hdec, reservedThenPayload, checkThen_eq_error_iff, hlater]

/-- Settles O6: with the reserved bits 0, the payload's length is the first check. -/
theorem payloadOfWrongLengthIsRefused : Obligations.PayloadOfWrongLengthIsRefused := by
  intro g q hop hz
  obtain ⟨k, hk, hdec⟩ := decodeRequest_of_assigned g q hop
  have hlater : k ≠ .error .badPayload := hk.ne_error (by decide)
  simp [hdec, reservedThenPayload, checkThen_eq_error_iff, hz, hlater]

/-! ## Encoder and decoder -/

/-! ### Operands that fill a part of their field -/

/-- An operand whose bits from `n` on are 0 is its lower `n` bits, widened. -/
theorem setWidth_lower_of_upper_eq_zero {a : Half} {n : Nat} (h : a.extractLsb' n (16 - n) = 0) :
    (a.extractLsb' 0 n).setWidth 16 = a := by
  apply BitVec.eq_of_getLsbD_eq
  intro i hi
  by_cases hin : i < n
  · simp [hi, hin]
  · have hclear := getLsbD_of_upper_eq_zero h (Nat.le_of_not_lt hin)
    simp [-BitVec.getLsbD_eq_getElem, hin, hclear]

/-- The code of a mode names that mode, and its other bits are 0 (R90). -/
theorem modeOfCode_codeOfMode (mode : PinMode) :
    modeOfCode ((codeOfMode mode).extractLsb' 0 2) = some mode ∧
      (codeOfMode mode).extractLsb' 2 14 = 0#14 := by
  cases mode <;> decide

/-- An operand that names a mode and whose other bits are 0 is the code of that mode (R90). -/
theorem codeOfMode_of_modeOfCode {a : Half} {mode : PinMode} (hz : a.extractLsb' 2 14 = 0#14)
    (h : modeOfCode (a.extractLsb' 0 2) = some mode) : codeOfMode mode = a := by
  have hcode : ∀ c : BitVec 2, modeOfCode c = some mode → codeOfMode mode = c.setWidth 16 := by
    cases mode <;> decide
  exact (hcode _ h).trans (setWidth_lower_of_upper_eq_zero hz)

/-- An address fills the lower half of its operand, and the upper half is 0 (R81). -/
theorem address_operand (addr : Byte) :
    (addr.setWidth 16).extractLsb' 0 8 = addr ∧ (addr.setWidth 16).extractLsb' 8 8 = 0#8 := by
  constructor <;> apply BitVec.eq_of_getLsbD_eq <;> intro i hi
  · simpa [hi] using fun _ => (by omega : i < 16)
  · simp [hi]

/-- An operand whose upper 15 bits are 0 is that of the token in bit 0 (R81). -/
theorem tokenOperand_of_upper_eq_zero {a : Half} (hz : a.extractLsb' 1 15 = 0#15) :
    (if a.getLsbD 0 then 1#16 else 0#16) = a := by
  have hbit : ∀ c : BitVec 1,
      (if (c.setWidth 16).getLsbD 0 then 1#16 else 0#16) = c.setWidth 16 := by decide
  rw [← setWidth_lower_of_upper_eq_zero hz]
  exact hbit _

/-! ### From the request -/

/-- A request without payload is the encoding of its fields. -/
theorem plainEncoding_eq {q : Request} {op sel : Byte} {b a : Half}
    (hop : (opField q.word).toNat = op.toNat) (hsel : selField q.word = sel)
    (hb : bField q.word = b) (ha : aField q.word = a) (hpl : q.payload = []) :
    plainEncoding op sel b a = .request q := by
  obtain rfl := BitVec.eq_of_toNat_eq hop
  obtain ⟨w, pl⟩ := q
  subst hsel hb ha hpl
  rw [plainEncoding, requestWord_fields]

/-- A `TWI_WRITE` is the encoding of its payload. -/
theorem encode_twiWrite_eq {q : Request} (hop : (opField q.word).toNat = 0x32)
    (hsel : selField q.word = 0#8) (hb : bField q.word = 0#16)
    (hlen : q.payload.length = (aField q.word).toNat) :
    encode (.twiWrite q.payload) = .request q := by
  have hword : requestWord 0x32#8 0#8 0#16 (BitVec.ofNat 16 q.payload.length) = q.word := by
    have hop' : opField q.word = 0x32#8 := BitVec.eq_of_toNat_eq hop
    rw [hlen, BitVec.ofNat_toNat, BitVec.setWidth_eq, ← hop', ← hsel, ← hb, requestWord_fields]
  rw [encode, hword]

/-- A request that decodes is the encoding of its instruction. -/
theorem encode_of_decodeRequest {g : Widths} {q : Request} {i : Instr}
    (h : decodeRequest g q = .ok i) : encode i = .request q := by
  unfold decodeRequest at h
  split at h
  all_goals
    simp only [plainRequest_eq_ok_iff, checkThen_eq_ok_iff, withPin_eq_ok_iff, Bool.and_eq_true,
      beq_iff_eq, List.isEmpty_iff, Except.ok.injEq, reduceCtorEq] at h
  case h_1 hop | h_3 hop | h_4 hop | h_5 hop | h_20 hop =>
    obtain ⟨hb, hpl, rfl⟩ := h
    exact plainEncoding_eq hop rfl hb rfl hpl
  case h_2 hop | h_21 hop =>
    obtain ⟨⟨hb, ha⟩, hpl, rfl⟩ := h
    exact plainEncoding_eq hop rfl hb ha hpl
  case h_6 hop =>
    obtain ⟨⟨hb, hz⟩, hpl, p, hp, h⟩ := h
    split at h <;> cases h
    next mode hmode =>
    exact plainEncoding_eq hop (selOfPin_of_pinOfSel g _ p hp).symm hb
      (codeOfMode_of_modeOfCode hz hmode).symm hpl
  case h_7 hop | h_8 hop | h_9 hop | h_10 hop | h_19 hop =>
    obtain ⟨⟨hb, ha⟩, hpl, p, hp, rfl⟩ := h
    exact plainEncoding_eq hop (selOfPin_of_pinOfSel g _ p hp).symm hb ha hpl
  case h_13 hop =>
    obtain ⟨hsel, hpl, rfl⟩ := h
    exact plainEncoding_eq hop hsel rfl rfl hpl
  case h_16 hop =>
    obtain ⟨⟨⟨hsel, hb⟩, hz⟩, hpl, rfl⟩ := h
    exact plainEncoding_eq hop hsel hb (setWidth_lower_of_upper_eq_zero hz).symm hpl
  case h_17 hop =>
    obtain ⟨⟨hsel, hb⟩, hlen, rfl⟩ := h
    exact encode_twiWrite_eq hop hsel hb hlen
  case h_23 hop =>
    obtain ⟨⟨⟨hsel, hb⟩, hz⟩, hpl, rfl⟩ := h
    exact plainEncoding_eq hop hsel hb (tokenOperand_of_upper_eq_zero hz).symm hpl
  case h_11 hop | h_12 hop | h_14 hop | h_15 hop | h_18 hop | h_22 hop | h_24 hop | h_25 hop =>
    obtain ⟨⟨⟨hsel, hb⟩, ha⟩, hpl, rfl⟩ := h
    exact plainEncoding_eq hop hsel hb ha hpl

/-- Settles O2: every field that the decoder reads is written back, and every other is checked to be
0. -/
theorem encodeOfDecodedRequestIsTheRequest : Obligations.EncodeOfDecodedRequestIsTheRequest :=
  fun _ _ _ h => ⟨(wellFormed_of_decodeRequest h).1, encode_of_decodeRequest h⟩

/-! ### From the instruction -/

/-- An encoded pin request goes on with its pin, if the machine has that pin. -/
theorem withPin_selOfPin {g : Widths} {p : PinId} (h : g.hasPin p = true)
    (k : PinId → Except RefuseReason Instr) : withPin g (selOfPin p) k = k p := by
  rw [withPin, pinOfSel_selOfPin g p h]

/-- Settles O1: the decoder finds each field where the encoder puts it, a pin id is a pin of the
machine, and a payload fits its length. -/
theorem decodeOfEncodeIsIdentity : Obligations.DecodeOfEncodeIsIdentity := by
  intro g i h
  cases i
  all_goals
    simp only [encode, plainEncoding, decode, decodeRequest, opField_requestWord,
      selField_requestWord, bField_requestWord, aField_requestWord, BitVec.reduceToNat]
  case pinConfigure p mode =>
    obtain ⟨hmode, hz⟩ := modeOfCode_codeOfMode mode
    rw [plainRequest_of_checks (by simp [hz]) rfl, withPin_selOfPin h, hmode]
  case pinSetHigh p | pinSetLow p | pinToggle p | pinRead p | btnNew p =>
    exact withPin_selOfPin h _
  case twiSetAddress addr =>
    obtain ⟨hlow, hhigh⟩ := address_operand addr
    rw [plainRequest_of_checks (by simp [hhigh]) rfl, hlow]
  case twiWrite payload =>
    have hlen : payload.length % 65536 = payload.length := Nat.mod_eq_of_lt (of_decide_eq_true h)
    simp [checkThen, hlen]
  case csExit token => cases token <;> rfl
  all_goals rfl

/-! ### The status map -/

/-- The class of a status word is decided by its upper five bits alone, as R93 lists them. -/
theorem decodeStatus_eq (t : Byte) : decodeStatus t =
    match (t &&& 0xF8#8).toNat with
    | 0x08 => .twiStatusStart
    | 0x10 => .twiStatusRepStart
    | 0x18 => .twiStatusSlaAck
    | 0x20 => .twiStatusSlaNack
    | 0x28 => .twiStatusDataAck
    | 0x30 => .twiStatusDataNack
    | 0x38 => .twiStatusArbLost
    | 0x00 => .twiStatusBusError
    | _ => .twiStatusOther := by
  split <;>
    simp_all [decodeStatus, informativeStatusMap, classOfStatus, instrOfClass, BitVec.toNat_eq]

/-- Settles O3: the written words are evaluated, and the status words are split by their class. -/
theorem writtenWordsDecodeByTheTable : Obligations.WrittenWordsDecodeByTheTable := by
  refine ⟨?_, ?_, ?_, ?_, ?_, ?_, ?_, ?_, ?_, decodeStatus_eq⟩ <;> decide

end Sys2Proof

namespace Sys2Proof.Machine

/-! ## Refusals and the waiting write -/

/-- A foreground that takes a request which does not decode refuses it (R96). -/
theorem foreground_of_undecodable {s : State} {q : Request} {e : RefuseReason}
    (hf : s.core.fg = .idle) (hq : s.request = some q)
    (hd : decodeRequest s.cfg.toWidths q = .error e) : foreground s = .next (s.refuse e) := by
  simp only [foreground, hf, hq, takeRequest, hd]

/-- No agent steps after a refusal (R250). -/
theorem step_of_refused {s : State} (h : s.core.refused = true) : step s = .fault .runEnded :=
  if_pos h

/-- Settles O10: the foreground refuses the request, and a refused machine has no step. -/
theorem undecodableRequestEndsTheRun : Obligations.UndecodableRequestEndsTheRun := by
  intro s q e hr hw ht hf hq hd
  have hstep : step s = foreground s.afterTurn := by rw [step_eq_runTurn hr hw, ht]; rfl
  have hrefuse := foreground_of_undecodable (s := s.afterTurn) hf hq hd
  exact ⟨_, hstep.trans hrefuse, s.afterTurn.refuse_refusedWith e, step_of_refused rfl⟩

/-- A waiting foreground's step. -/
theorem foreground_of_twiWait {s : State} (h : s.core.fg = .twiWait) :
    foreground s = awaitWrite s := by
  simp only [foreground, h]

/-- Settles O29: the driver's state decides between the hold and the return. -/
theorem waitingWriteHoldsAndReturns : Obligations.WaitingWriteHoldsAndReturns := by
  intro s hfg
  rw [foreground_of_twiWait hfg]
  exact ⟨fun ht => if_neg (by simp [ht]), fun hready => ⟨_, if_pos hready, rfl,
    ⟨rfl, rfl⟩, (s.setFg_frame .idle).respond _ _⟩⟩

/-- An instruction that answers the refused state is refused. -/
theorem refused_of_exec_eq {i : Instr} {s : State} {e : RefuseReason}
    (h : exec i s = .next (s.refuse e)) : ∃ t, exec i s = .next t ∧ RefusedWith s t e :=
  ⟨_, h, s.refuse_refusedWith e⟩

/-- Settles O31: each of the five requests looks at its unit's flag before anything else. -/
theorem requestsWithoutInstanceAreRefused : Obligations.RequestsWithoutInstanceAreRefused := by
  intro s addr payload
  refine ⟨fun hclk => ?_, fun htwi => ?_⟩
  · have hno : ¬ s.clock.flag = true := by simp [hclk]
    exact ⟨refused_of_exec_eq (if_neg hno), refused_of_exec_eq (if_neg hno)⟩
  · have hno : ¬ s.drv.flag = true := by simp [htwi]
    exact ⟨refused_of_exec_eq (if_neg hno), refused_of_exec_eq (if_neg hno),
      refused_of_exec_eq (if_neg hno)⟩

/-! ### Register requests -/

section
variable {s : State} {r : Byte} {m : Half} {d : RegDesc} {e : RefuseReason}

/-- A register id that names no descriptor (R102). -/
theorem State.resolveReg_of_none (h : s.desc r = none) : s.resolveReg r = .error .badSelector := by
  simp only [State.resolveReg, h]

/-- A register that some unit owns (R102). -/
theorem State.resolveReg_of_owned (h : s.desc r = some d) (howned : d.owner ≠ .free) :
    s.resolveReg r = .error .ownedRegister := by
  simp only [State.resolveReg, h, if_neg howned]

/-- A Bit-set of a register that is not resolved. -/
theorem State.resolveBits_of_unresolved (h : s.resolveReg r = .error e) (need : Access) :
    s.resolveBits r m need = .error e := by
  simp only [State.resolveBits, h]

/-- A Bit-set that is not well formed (R103). -/
theorem State.resolveBits_of_badBitSet (h : s.resolveReg r = .ok d) (hbad : ¬ bitSetWf d m = true)
    (need : Access) : s.resolveBits r m need = .error .badBitSet := by
  simp [State.resolveBits, h, hbad]

/-- A well-formed Bit-set without the capability that the request needs (R103). -/
theorem State.resolveBits_of_not_allows {need : Access} (h : s.resolveReg r = .ok d)
    (hwf : bitSetWf d m = true) (hcap : ¬ (combinedCap d m).allows need = true) :
    s.resolveBits r m need = .error .capability := by
  simp [State.resolveBits, h, hwf, hcap]

theorem exec_regSetRaw_of_unresolved (h : s.resolveReg r = .error e) :
    exec (.regSetRaw r m) s = .next (s.refuse e) := by
  change execRegSetRaw r m s = _
  simp only [execRegSetRaw, h]

theorem exec_regSetRaw_of_tooWide (h : s.resolveReg r = .ok d) (hwide : valueTooWide d m = true) :
    exec (.regSetRaw r m) s = .next (s.refuse .valueWidth) := by
  change execRegSetRaw r m s = _
  simp only [execRegSetRaw, h, if_pos hwide]

theorem exec_regGet_of_unresolved (h : s.resolveReg r = .error e) :
    exec (.regGet r) s = .next (s.refuse e) := by
  change execRegGet r s = _
  simp only [execRegGet, h]

theorem exec_regSetBits_of_unresolved (h : s.resolveBits r m .write = .error e) :
    exec (.regSetBits r m) s = .next (s.refuse e) := by
  change execRegSetBits r m s = _
  simp only [execRegSetBits, h]

theorem exec_regClearBits_of_unresolved (h : s.resolveBits r m .write = .error e) :
    exec (.regClearBits r m) s = .next (s.refuse e) := by
  change execRegClearBits r m s = _
  simp only [execRegClearBits, h]

theorem exec_regReadBits_of_unresolved (h : s.resolveBits r m .read = .error e) :
    exec (.regReadBits r m) s = .next (s.refuse e) := by
  change execRegReadBits r m s = _
  simp only [execRegReadBits, h]

/-- A Bit-set that is not resolved for any access refuses the three Bit-set requests. -/
theorem bitSetRequests_refused (h : ∀ need, s.resolveBits r m need = .error e) :
    ∀ i ∈ [Instr.regSetBits r m, .regClearBits r m, .regReadBits r m],
      ∃ t, exec i s = .next t ∧ RefusedWith s t e := by
  simp only [List.forall_mem_cons, List.not_mem_nil, false_imp_iff, implies_true, and_true]
  exact ⟨refused_of_exec_eq (exec_regSetBits_of_unresolved (h .write)),
    refused_of_exec_eq (exec_regClearBits_of_unresolved (h .write)),
    refused_of_exec_eq (exec_regReadBits_of_unresolved (h .read))⟩

/-- A register that is not resolved refuses every Register Model request. -/
theorem registerRequests_refused (h : s.resolveReg r = .error e) :
    ∀ i ∈ [Instr.regSetRaw r m, .regGet r, .regSetBits r m, .regClearBits r m, .regReadBits r m],
      ∃ t, exec i s = .next t ∧ RefusedWith s t e := by
  rw [List.forall_mem_cons, List.forall_mem_cons]
  exact ⟨refused_of_exec_eq (exec_regSetRaw_of_unresolved h),
    refused_of_exec_eq (exec_regGet_of_unresolved h),
    bitSetRequests_refused (State.resolveBits_of_unresolved h)⟩

/-- A value of more than eight bits does not fit an 8-bit register (R104). -/
theorem valueTooWide_of_le (hwidth : d.width = .w8) (h : 256 ≤ m.toNat) :
    valueTooWide d m = true := by
  have hlt := m.isLt
  have hne : m.extractLsb' 8 8 ≠ 0#8 := by
    simp only [ne_eq, BitVec.toNat_eq, BitVec.extractLsb'_toNat, Nat.shiftRight_eq_div_pow,
      BitVec.toNat_ofNat]
    omega
  simp [valueTooWide, hwidth, hne]

/-- An empty Bit-set, and one with a member above the width or undeclared, is not well formed
(R103). -/
theorem not_bitSetWf (h : m = 0#16 ∨
    ∃ i, m.getLsbD i = true ∧ (d.width.bits ≤ i ∨ d.decl i = .undeclared)) :
    ¬ bitSetWf d m = true := by
  rw [bitSetWf_iff]
  rintro ⟨hne, hall⟩
  obtain hzero | ⟨i, hi, hbad⟩ := h
  · exact hne hzero
  · obtain ⟨hlt, hdecl⟩ := hall i hi
    exact hbad.elim (Nat.not_le.2 hlt) hdecl

/-- A member that cannot be written keeps a Bit-set from being written. -/
theorem not_allows_write (h : ∃ i, m.getLsbD i = true ∧ (d.decl i).writable = false) :
    ¬ (combinedCap d m).allows .write = true := by
  obtain ⟨i, hi, hno⟩ := h
  exact fun hall => by simpa [hno] using (combinedCap_writable_iff d m).1 hall i hi

/-- A member that cannot be read keeps a Bit-set from being read. -/
theorem not_allows_read (h : ∃ i, m.getLsbD i = true ∧ (d.decl i).readable = false) :
    ¬ (combinedCap d m).allows .read = true := by
  obtain ⟨i, hi, hno⟩ := h
  exact fun hall => by simpa [hno] using (combinedCap_readable_iff d m).1 hall i hi

end

/-- Settles O47: the selector, the owner, the value's width, the Bit-set and its capability, each
checked where the ones before it pass. -/
theorem registerRequestsAreRefusedInOrder : Obligations.RegisterRequestsAreRefusedInOrder := by
  intro s r m
  refine ⟨fun hnone => registerRequests_refused (State.resolveReg_of_none hnone), fun d hd => ?_⟩
  refine ⟨fun howned => registerRequests_refused (State.resolveReg_of_owned hd howned), ?_, ?_, ?_⟩ <;>
    intro hfree <;> have hres := State.resolveReg_of_free hd hfree
  · exact fun hwidth hbig =>
      refused_of_exec_eq (exec_regSetRaw_of_tooWide hres (valueTooWide_of_le hwidth hbig))
  · exact fun hbad =>
      bitSetRequests_refused (State.resolveBits_of_badBitSet hres (not_bitSetWf hbad))
  · refine fun hwf => ⟨fun hno => ?_, fun hno => ?_⟩
    · have hcap := State.resolveBits_of_not_allows hres hwf (not_allows_write hno)
      exact ⟨refused_of_exec_eq (exec_regSetBits_of_unresolved hcap),
        refused_of_exec_eq (exec_regClearBits_of_unresolved hcap)⟩
    · have hcap := State.resolveBits_of_not_allows hres hwf (not_allows_read hno)
      exact refused_of_exec_eq (exec_regReadBits_of_unresolved hcap)

/-! ### Pin requests -/

section
variable {s : State} {p : PinId} {e : RefuseReason}

/-- Where no level can be driven, the three pin writes are refused. -/
theorem pinWrites_refused (h : ∀ b, driveLatch p b s = s.refuse e) :
    ∀ i ∈ [Instr.pinSetHigh p, .pinSetLow p, .pinToggle p],
      ∃ t, exec i s = .next t ∧ RefusedWith s t e := by
  simp only [List.forall_mem_cons, List.not_mem_nil, false_imp_iff, implies_true, and_true]
  exact ⟨refused_of_exec_eq (congrArg _ (h true)), refused_of_exec_eq (congrArg _ (h false)),
    refused_of_exec_eq (congrArg _ (h (!(s.pin p).latch)))⟩

/-- The bus pins are the driver's while its flag is set (R126). -/
theorem State.ownsPin_of_bus (hflag : s.drv.flag = true)
    (hp : p = s.cfg.sdaPin ∨ p = s.cfg.sclPin) : s.ownsPin p = true := by
  simp [State.ownsPin, hflag, hp]

end

/-- Settles O52: the mode is checked before the owner. -/
theorem pinWritesAreRefusedInOrder : Obligations.PinWritesAreRefusedInOrder := by
  refine fun s p => ⟨fun hmode => pinWrites_refused fun b => if_pos hmode, fun hflag hp => ?_⟩
  have howned := State.ownsPin_of_bus hflag hp
  refine ⟨fun hmode => pinWrites_refused fun b => ?_,
    fun mode => refused_of_exec_eq (if_pos howned)⟩
  rw [driveLatch, if_neg (not_not.2 hmode), if_pos howned]

/-! ### Button requests -/

section
variable {s : State} {k : Byte}

/-- `BTN_WAS_PRESSED` of a Button that exists (R182). -/
theorem exec_btnWasPressed_of_some {b : Button} (h : s.btns[k.toNat]? = some b) :
    exec (.btnWasPressed k) s = .next (s.respond .ok (bitData (b.changed && b.isPressed))) := by
  change execBtnWasPressed k s = _
  simp only [execBtnWasPressed, h]

theorem exec_btnWasPressed_of_none (h : s.btns[k.toNat]? = none) :
    exec (.btnWasPressed k) s = .next (s.refuse .badSelector) := by
  change execBtnWasPressed k s = _
  simp only [execBtnWasPressed, h]

theorem exec_btnUpdate_of_none (now : Instant) (h : s.btns[k.toNat]? = none) :
    exec (.btnUpdate k now) s = .next (s.refuse .badSelector) := by
  change execBtnUpdate k now s = _
  simp only [execBtnUpdate, h]

end

/-- Settles O56: the id names a Button, which answers, or none. -/
theorem btnWasPressedAnswersTheLastUpdate : Obligations.BtnWasPressedAnswersTheLastUpdate := by
  intro s k now
  refine ⟨fun b hb => ⟨_, exec_btnWasPressed_of_some hb, ?_, s.respond_frame _ _⟩, fun hnone => ?_⟩
  · simpa only [bitData, Bool.and_eq_true] using
      s.respond_responded .ok (bitData (b.changed && b.isPressed))
  · have hb : s.btns[k.toNat]? = none := List.getElem?_eq_none hnone
    exact ⟨refused_of_exec_eq (exec_btnWasPressed_of_none hb),
      refused_of_exec_eq (exec_btnUpdate_of_none now hb)⟩

end Sys2Proof.Machine

/-! PROOF. The statement of 40_register_model.md: a raw write followed by a raw read (R109). The read
finds the value under the mask, and what it returns of it is decided by the read kind of each bit. -/

namespace Sys2Proof.Machine

/-- A register just written reads as its read kinds show the value under the mask (R100, R101). The
free value is that of before the write. -/
theorem State.readReg_writeReg (s : State) (d : RegDesc) (w : Half) (hmem : Memory.wf s.mem = true)
    (hd : d.wf = true) : (s.writeReg d w).readReg d = readValue d (w &&& d.mask) s.drawn := by
  rw [State.readReg, s.stored_writeReg d w hmem hd, State.drawn, State.writeReg_oracle, State.drawn]

/-- Where the mask holds the `Storage` bits and every other bit is `Zero`, a masked value reads back
unchanged, whatever is drawn (R109). -/
theorem readValue_masked_of_storage_of_zero {d : RegDesc}
    (hin : ∀ i, i < 16 → d.mask.getLsbD i = true → (d.decl i).kind = .storage)
    (hout : ∀ i, i < 16 → d.mask.getLsbD i = false → (d.decl i).kind = .zero) (w draw : Half) :
    readValue d (w &&& d.mask) draw = w &&& d.mask := by
  refine BitVec.eq_of_getLsbD_eq fun i hi => ?_
  rw [readValue_getLsbD d _ _ i hi]
  cases hm : d.mask.getLsbD i with
  | true => rw [hin i hi hm]
  | false => simp [hout i hi hm, hm]

/-- Settles O48: the response to the write leaves the register as written, so the read that follows
is that of the value under the mask. -/
theorem writeMaskProperty : Obligations.WriteMaskProperty := by
  intro s r v d hd hfree hfits hmem hwf
  have hres : s.resolveReg r = .ok d := State.resolveReg_of_free hd hfree
  have hread : ((s.writeReg d v).respond .ok 0#16).readReg d = readValue d (v &&& d.mask) s.drawn :=
    s.readReg_writeReg d v hmem hwf
  refine ⟨_, _, _, exec_regSetRaw_of_resolved hres hfits, exec_regGet_of_resolved hres,
    State.respond_responded _ _ _, ?_, ?_⟩ <;> rw [hread]
  · intro i hi
    have hbit := readValue_getLsbD d (v &&& d.mask) s.drawn i hi
    rw [BitVec.getLsbD_and] at hbit
    exact hbit
  · exact fun hin hout => readValue_masked_of_storage_of_zero hin hout v s.drawn

end Sys2Proof.Machine

/-! PROOF. The statements of 41_pin_port.md about the pin requests that are admitted: what they do
to their pin and what they leave alone, and the level that a read answers (R120 to R124). -/

namespace Sys2Proof.Machine

/-! ## Configuring a pin -/

/-- `PIN_CONFIGURE` of a pin that the driver does not own (R120, R126). -/
theorem exec_pinConfigure_of_free {s : State} {p : PinId} (mode : PinMode)
    (howned : s.ownsPin p = false) :
    exec (.pinConfigure p mode) s = .next ((s.pinConfigure p mode).respond .ok 0#16) := by
  change execPinConfigure p mode s = _
  simp [execPinConfigure, howned]

/-- Settles O50: the pin is configured, and its new latch is the one R120 couples to the mode. -/
theorem pinConfigureSetsModeAndLatch : Obligations.PinConfigureSetsModeAndLatch := by
  intro s p mode howned
  have hpin : (s.pinConfigure p mode).pin p =
      ⟨mode, latchFor mode (s.pin p).latch, (s.pin p).ext⟩ :=
    s.pin_pinConfigure_same p mode
  have hlatch : ((s.pinConfigure p mode).pin p).latch = latchFor mode (s.pin p).latch :=
    congrArg Pin.latch hpin
  refine ⟨_, exec_pinConfigure_of_free mode howned, congrArg Pin.mode hpin, ?_, ?_, ?_,
    (congrArg Pin.ext hpin :), fun q hq => s.pin_pinConfigure_ne mode hq,
    State.respond_responded _ _ _, (s.pinConfigure_frame p mode).respond _ _⟩
  all_goals
    rintro rfl
    exact hlatch

/-! ## Driving a latch -/

/-- Setting a latch changes the pins alone. -/
theorem State.setLatch_frame (s : State) (p : PinId) (b : Bool) :
    UnchangedBut [.pins] s (s.setLatch p b) := by
  intro q hq; cases q <;> simp_all [Part.agree]

/-- On an output that the driver does not own, neither check of R121 refuses. -/
theorem driveLatch_of_output {s : State} {p : PinId} (b : Bool) (hmode : (s.pin p).mode = .output)
    (howned : s.ownsPin p = false) :
    driveLatch p b s = (s.setLatch p b).respond .ok 0#16 := by
  simpa [hmode, howned] using driveLatch_cases p b s

/-- The three pin writes drive a latch: to 1, to 0, and to the inverse of what it was. -/
theorem exec_pinWrite {s : State} {p : PinId} {i : Instr} {b : Bool}
    (h : (i, b) ∈ [(Instr.pinSetHigh p, true), (.pinSetLow p, false),
      (.pinToggle p, !(s.pin p).latch)]) :
    exec i s = .next (driveLatch p b s) := by
  simp only [List.mem_cons, List.not_mem_nil, or_false, Prod.mk.injEq] at h
  obtain ⟨rfl, rfl⟩ | ⟨rfl, rfl⟩ | ⟨rfl, rfl⟩ := h <;> rfl

/-- Settles O51: each of the three requests is one driving of the latch, which is admitted here. -/
theorem pinWritesDriveTheLatch : Obligations.PinWritesDriveTheLatch := by
  intro s p i b hmode howned hi
  have hexec : exec i s = .next ((s.setLatch p b).respond .ok 0#16) :=
    (exec_pinWrite hi).trans (congrArg _ (driveLatch_of_output b hmode howned))
  exact ⟨_, hexec, s.pin_setLatch_same p b, fun q hq => s.pin_setLatch_ne b hq,
    State.respond_responded _ _ _, (s.setLatch_frame p b).respond _ _⟩

/-! ## Reading a pin -/

section
variable {v : Pin}

/-- An output reads its latch (R124). -/
theorem Pin.level_of_output (draw : Half) (hmode : v.mode = .output) : v.level draw = v.latch := by
  simp [Pin.level, hmode]

/-- A pull-up reads low only where an external circuit pulls it low (R124). -/
theorem Pin.level_of_inputPullup (draw : Half) (hmode : v.mode = .inputPullup) :
    v.level draw = false ↔ v.ext = .low := by
  cases hext : v.ext <;> simp [Pin.level, hmode, hext]

/-- An input reads the external level, and the drawn bit where nothing drives it (R124). -/
theorem Pin.level_of_input (draw : Half) (hmode : v.mode = .input) :
    v.level draw =
      match v.ext with
      | .low => false
      | .high => true
      | .float => draw.getLsbD 0 := by
  cases hext : v.ext <;> simp [Pin.level, hmode, hext]

end

/-- Settles O53: the answer is the level of the pin, given the next free value. -/
theorem pinReadAnswersTheLevel : Obligations.PinReadAnswersTheLevel := by
  intro s p
  refine ⟨_, s.readPin p, rfl, State.respond_responded _ _ _, Pin.level_of_output _,
    Pin.level_of_inputPullup _, ?_, ?_, ?_, s.drawn_frame _ _⟩
  all_goals
    intro hmode hext
    rw [State.readPin, Pin.level_of_input _ hmode, hext]

end Sys2Proof.Machine

/-! PROOF. The statements of 42_clock.md about the requests that make, read and drop the Clock (R135,
R136, R138). Making and dropping turn the timer on and off as one operation; only making it also
clears the pending match. -/

namespace Sys2Proof.Machine

/-! ## Changes of the timer -/

/-- Turning the Clock on or off changes its flag, its timer and its timer's interrupt alone. -/
theorem clockEnables_frame (s : State) (on : Bool) :
    UnchangedBut [.clkFlag, .timEn, .timIe] s
      { s with clock := { s.clock with flag := on, timEn := on, timIe := on } } := by
  intro p hp; cases p <;> simp_all [Part.agree, State.pin]

/-- Setting or clearing the pending match changes it alone. -/
theorem timPend_frame (s : State) (b : Bool) :
    UnchangedBut [.timPend] s { s with clock := { s.clock with timPend := b } } := by
  intro p hp; cases p <;> simp_all [Part.agree, State.pin]

/-! ## Making the Clock -/

/-- `CLK_INIT` where no Clock exists (R135). -/
theorem exec_clkInit_of_not_flag {s : State} (hflag : s.clock.flag = false) :
    exec .clkInit s = .next (State.respond
      { s with clock := { s.clock with flag := true, timEn := true, timIe := true,
                                       timPend := false } } .ok 0#16) := by
  change execClkInit s = _
  simp [execClkInit, hflag]

/-- `CLK_INIT` where a Clock exists (R135). -/
theorem exec_clkInit_of_flag {s : State} (hflag : s.clock.flag = true) :
    exec .clkInit s = .next (s.respond .alreadyInitialized 0#16) := by
  change execClkInit s = _
  simp [execClkInit, hflag]

/-- Settles O19: the flag decides between the two clauses. The timer is turned on and its pending
match cleared, or the request only responds. -/
theorem clkInitMakesTheClock : Obligations.ClkInitMakesTheClock := by
  refine fun s => ⟨fun hfree => ?_, fun hflag => ?_⟩
  · have hframe := (clockEnables_frame s true).trans (timPend_frame _ false)
    exact ⟨_, exec_clkInit_of_not_flag hfree, rfl, rfl, rfl, rfl, ⟨rfl, rfl⟩, hframe.respond _ _⟩
  · exact ⟨_, exec_clkInit_of_flag hflag, s.respond_responded _ _, s.respond_frame _ _⟩

/-! ## Reading the Clock -/

/-- A critical section that restores the enable it saved leaves no change (R190). -/
theorem State.setIe_restore (s : State) (b : Bool) : (s.setIe b).setIe s.core.ie = s := rfl

/-- `CLK_NOW` of an existing Clock is a response alone (R136). -/
theorem exec_clkNow_of_flag {s : State} (hflag : s.clock.flag = true) :
    exec .clkNow s = .next (s.respond .ok s.clock.tick) := by
  change execClkNow s = _
  simp [execClkNow, hflag, State.setIe_restore]

/-- Settles O20: the bracket around the reading restores the enable, so only the response is left. -/
theorem clkNowAnswersTheTick : Obligations.ClkNowAnswersTheTick := fun s hflag =>
  ⟨_, exec_clkNow_of_flag hflag, s.respond_responded _ _, s.respond_frame _ _⟩

/-! ## Dropping the Clock -/

/-- `CLK_DROP` of an existing Clock (R138). -/
theorem exec_clkDrop_of_flag {s : State} (hflag : s.clock.flag = true) :
    exec .clkDrop s = .next (State.respond
      { s with clock := { s.clock with flag := false, timEn := false, timIe := false } }
      .ok 0#16) := by
  change execClkDrop s = _
  simp [execClkDrop, hflag]

/-- Settles O22: the Clock is turned off, and its tick and pending match are in the frame. -/
theorem clkDropStopsTheTimer : Obligations.ClkDropStopsTheTimer := fun s hflag =>
  ⟨_, exec_clkDrop_of_flag hflag, rfl, rfl, rfl, ⟨rfl, rfl⟩,
    (clockEnables_frame s false).respond _ _⟩

end Sys2Proof.Machine

/-! PROOF. The statements of 43_twi_driver.md: the requests that make, use and drop the driver
(R151, R153, R156), the branches of its handler and the event that runs them (R157 to R164), the
START of each accepted write (R166), and whole writes (R167), followed report by report. -/

namespace Sys2Proof.Machine

/-! ## Changes of the driver and of the peripheral -/

/-- The parts that a peripheral command writes (R150). -/
def commandParts : TwiCommand → List Part
  | .start => [.pInt, .pIe, .pEa, .pOut, .trace]
  | .send _ => [.trace, .pOut, .pEa, .pInt]
  | .stop => [.trace, .pOut, .pInt]
  | .release => [.trace, .pOut, .pInt]
  | .noack => [.pOut, .pEa, .pInt]

theorem State.twiCmd_frame (s : State) (c : TwiCommand) :
    UnchangedBut (commandParts c) s (s.twiCmd c) := by
  intro p hp
  cases p
  case pInt | pIe | pEa | pOut | trace =>
    cases c <;> simp_all [commandParts, commandTrace, commandIe, commandEa, Part.agree]
  all_goals simp [Part.agree, State.pin]

/-- Popping a byte changes the read cursor alone. -/
theorem rd_frame (s : State) (n : Nat) :
    UnchangedBut [.rd] s { s with drv := { s.drv with rd := n } } := by
  intro p hp; cases p <;> simp_all [Part.agree, State.pin]

/-- Recording an error changes the error slot alone. -/
theorem err_frame (s : State) (e : TwiError) :
    UnchangedBut [.err] s { s with drv := { s.drv with err := e } } := by
  intro p hp; cases p <;> simp_all [Part.agree, State.pin]

/-- Handing the record back changes the driver's state alone. -/
theorem handBack_frame (s : State) : UnchangedBut [.twiState] s (handBack s) := by
  intro p hp; cases p <;> simp_all [Part.agree, State.pin]

/-! ## The requests -/

/-! ### `TWI_INIT` -/

/-- Configuring a pin leaves the external level of every pin (R120). -/
theorem State.pinConfigure_ext (s : State) (p q : PinId) (mode : PinMode) :
    ((s.pinConfigure p mode).pin q).ext = (s.pin q).ext := by
  by_cases h : q = p
  · rw [h, State.pin_pinConfigure_same]
  · rw [State.pin_pinConfigure_ne s mode h]

/-- Each of two pins that are given pull-ups has one, even where the two are one pin. -/
theorem State.pin_pullups (s : State) {a b p : PinId} (h : p = a ∨ p = b) :
    ((s.pinConfigure a .inputPullup).pinConfigure b .inputPullup).pin p =
      ⟨.inputPullup, true, (s.pin p).ext⟩ := by
  by_cases hb : p = b
  · rw [hb, State.pin_pinConfigure_same]
    exact congrArg (Pin.mk .inputPullup true) (s.pinConfigure_ext a b .inputPullup)
  · rw [State.pin_pinConfigure_ne _ _ hb, ← h.resolve_right hb, State.pin_pinConfigure_same]
    rfl

/-- Making the driver sets its flag and state, its rate and its two enables (R151). -/
theorem driverEnables_frame (s : State) (rate : Nat) :
    UnchangedBut [.twiFlag, .twiState, .pRate, .pEn, .pEa] s
      { s with drv := { s.drv with flag := true, state := .ready }
               per := { s.per with rate := rate, en := true, ea := true } } := by
  intro p hp; cases p <;> simp_all [Part.agree, State.pin]

section
variable {s : State}

/-- `TWI_INIT` where no driver exists (R151). -/
theorem exec_twiInit_of_not_flag (hflag : s.drv.flag = false) :
    exec .twiInit s = .next (State.respond
      { (s.pinConfigure s.cfg.sdaPin .inputPullup).pinConfigure s.cfg.sclPin .inputPullup with
        drv := { s.drv with flag := true, state := .ready }
        per := { s.per with rate := s.cfg.twiSclHz, en := true, ea := true } } .ok 0#16) :=
  if_neg (by simp [hflag])

/-- `TWI_INIT` where a driver exists (R151). -/
theorem exec_twiInit_of_flag (hflag : s.drv.flag = true) :
    exec .twiInit s = .next (s.respond .alreadyInitialized 0#16) :=
  if_pos hflag

end

/-- Settles O25: the flag decides between the two clauses. The two bus lines are given pull-ups and
the driver is enabled, or the request only responds. -/
theorem twiInitMakesTheDriver : Obligations.TwiInitMakesTheDriver := by
  refine fun s => ⟨fun hfree => ?_, fun hflag =>
    ⟨_, exec_twiInit_of_flag hflag, s.respond_responded _ _, s.respond_frame _ _⟩⟩
  have hpull {p : PinId} (hp : p = s.cfg.sdaPin ∨ p = s.cfg.sclPin) := s.pin_pullups hp
  have hframe := ((s.pinConfigure_frame s.cfg.sdaPin .inputPullup).trans
    (State.pinConfigure_frame _ s.cfg.sclPin .inputPullup)).trans
      (driverEnables_frame _ s.cfg.twiSclHz)
  exact ⟨_, exec_twiInit_of_not_flag hfree, rfl, rfl, rfl, rfl, rfl,
    fun p hp => ⟨congrArg Pin.mode (hpull hp), congrArg Pin.latch (hpull hp),
      (congrArg Pin.ext (hpull hp) :)⟩,
    fun p hsda hscl =>
      (State.pin_pinConfigure_ne _ _ hscl).trans (State.pin_pinConfigure_ne s _ hsda),
    ⟨rfl, rfl⟩, (hframe.respond _ _).mono (by simp)⟩

/-! ### `TWI_WRITE` -/

/-- The front of the FIFO is the payload copied (R153). -/
theorem fillBuf_getElem?_of_lt {buf payload : List Byte} {k : Nat} (h : k < payload.length) :
    (fillBuf buf payload)[k]? = payload[k]? :=
  List.getElem?_append_left h

/-- The entries past the payload keep their bytes (R153). -/
theorem fillBuf_getElem?_of_le {buf payload : List Byte} {k : Nat} (h : payload.length ≤ k) :
    (fillBuf buf payload)[k]? = buf[k]? := by
  rw [fillBuf, List.getElem?_append_right h, List.getElem?_drop, Nat.add_sub_cancel' h]

/-- The FIFO filled, with its cursors, the error slot and the driver's state. -/
theorem filledRecord_frame (s : State) (buf : List Byte) (wr : Nat) :
    UnchangedBut [.buf, .rd, .wr, .err, .twiState] s
      { s with drv := { s.drv with buf := buf, rd := 0, wr := wr, err := .none,
                                   state := .transmitting } } := by
  intro p hp; cases p <;> simp_all [Part.agree, State.pin]

/-- The issue step fills the record, commands START and begins the wait (R153). -/
theorem issueWrite_frame (payload : List Byte) (s : State) :
    UnchangedBut [.buf, .rd, .wr, .err, .twiState, .pInt, .pIe, .pEa, .pOut, .trace, .fg] s
      (issueWrite payload s) :=
  ((filledRecord_frame s (fillBuf s.drv.buf payload) payload.length).trans
    (State.twiCmd_frame _ .start)).trans (State.setFg_frame _ .twiWait)

section
variable {s : State} {payload : List Byte}

/-- A driver that is not Ready is checked first (R153). -/
theorem exec_twiWrite_of_not_ready (hflag : s.drv.flag = true) (hstate : s.drv.state ≠ .ready) :
    exec (.twiWrite payload) s = .next (s.respond .notReady 0#16) :=
  (if_pos hflag).trans (if_pos hstate)

/-- A Ready driver takes no payload that the FIFO does not hold (R153). -/
theorem exec_twiWrite_of_too_long (hflag : s.drv.flag = true) (hready : s.drv.state = .ready)
    (hlen : s.cfg.bufCap < payload.length) :
    exec (.twiWrite payload) s = .next (s.respond .bufferLenError 0#16) :=
  (if_pos hflag).trans ((if_neg (not_not.2 hready)).trans (if_pos hlen))

/-- A Ready driver takes a payload that fits (R153). -/
theorem exec_twiWrite_of_fits (hflag : s.drv.flag = true) (hready : s.drv.state = .ready)
    (hlen : payload.length ≤ s.cfg.bufCap) :
    exec (.twiWrite payload) s = .next (issueWrite payload s) :=
  (if_pos hflag).trans ((if_neg (not_not.2 hready)).trans (if_neg (Nat.not_lt.2 hlen)))

end

/-- Settles O27: an accepted write is its issue step. -/
theorem acceptedWriteIssuesStart : Obligations.AcceptedWriteIssuesStart :=
  fun s payload hflag hready hlen =>
    ⟨_, exec_twiWrite_of_fits hflag hready hlen, fun _ => fillBuf_getElem?_of_lt,
      fun _ => fillBuf_getElem?_of_le, rfl, rfl, rfl, rfl, rfl, rfl, rfl, rfl, rfl, rfl,
      issueWrite_frame payload s⟩

/-- Settles O28: where a check fails the request only responds. -/
theorem writePreflightChecksHaveNoEffect : Obligations.WritePreflightChecksHaveNoEffect :=
  fun s _ hflag =>
    ⟨fun hstate => ⟨_, exec_twiWrite_of_not_ready hflag hstate, s.respond_responded _ _,
      s.respond_frame _ _⟩,
    fun hready hlen => ⟨_, exec_twiWrite_of_too_long hflag hready hlen, s.respond_responded _ _,
      s.respond_frame _ _⟩⟩

/-! ### `TWI_DROP` -/

/-- Releasing the driver turns the peripheral off and clears what pends (R156). -/
theorem driverRelease_frame (s : State) :
    UnchangedBut [.pEn, .pIe, .pInt, .pOut, .pPhase, .twiState, .twiFlag] s
      { s with
        per := { s.per with en := false, ie := false, int := false, out := .none, phase := .idle }
        drv := { s.drv with state := .uninitialized, flag := false } } := by
  intro p hp; cases p <;> simp_all [Part.agree, State.pin]

/-- Settles O30: the driver is released, and all that stays is in the frame. -/
theorem twiDropReleasesTheDriver : Obligations.TwiDropReleasesTheDriver := fun s hflag =>
  ⟨_, if_pos hflag, rfl, rfl, rfl, rfl, rfl, rfl, rfl, ⟨rfl, rfl⟩,
    (driverRelease_frame s).respond _ _⟩

/-! ## The branches of the handler -/

/-- The write-bit of the address byte is 0 (R158). -/
theorem sendAddress_eq (s : State) : sendAddress s = s.twiCmd (.send s.drv.sla) := by
  simp [sendAddress]

section
variable {s : State}

/-- While the FIFO holds a byte, the oldest is popped and sent (R159). -/
theorem sendNextOrStop_of_lt {b : Byte} (hlt : s.drv.rd < s.drv.wr)
    (hb : s.drv.buf[s.drv.rd]? = some b) :
    sendNextOrStop s =
      State.twiCmd { s with drv := { s.drv with rd := s.drv.rd + 1 } } (.send b) := by
  simp [sendNextOrStop, TwiDriver.hasByte, hlt, hb]

/-- With the FIFO empty the bus is stopped and the record handed back (R159). -/
theorem sendNextOrStop_of_le (hle : s.drv.wr ≤ s.drv.rd) :
    sendNextOrStop s = handBack (s.twiCmd .stop) := by
  simp [sendNextOrStop, TwiDriver.hasByte, Nat.not_lt.2 hle]

end

/-- A failure writes the error slot, the driver's state and what its command writes (R160 to
R163). -/
theorem failWith_frame (e : TwiError) (c : TwiCommand) (s : State) :
    UnchangedBut ([.err] ++ commandParts c ++ [.twiState]) s (failWith e c s) :=
  ((err_frame s e).trans (State.twiCmd_frame _ c)).trans (handBack_frame _)

/-- Settles O32: each of the three branches is one peripheral command. -/
theorem addressAndOtherBranches : Obligations.AddressAndOtherBranches := by
  refine fun s => ⟨fun i hi => ?_, ⟨_, rfl, rfl, rfl, rfl, s.twiCmd_frame .noack⟩⟩
  have hexec : exec i s = .next (s.twiCmd (.send s.drv.sla)) := by
    rw [← sendAddress_eq]
    obtain rfl | rfl := hi <;> rfl
  exact ⟨_, hexec, rfl, rfl, rfl, rfl, s.twiCmd_frame (.send s.drv.sla)⟩

/-- Settles O33: the FIFO decides between sending its oldest byte and stopping the bus. -/
theorem acknowledgedBranches : Obligations.AcknowledgedBranches := by
  intro s i hi
  have hexec : exec i s = .next (sendNextOrStop s) := by obtain rfl | rfl := hi <;> rfl
  refine ⟨fun b hlt hb => ?_, fun hle => ?_⟩
  · rw [sendNextOrStop_of_lt hlt hb] at hexec
    exact ⟨_, hexec, rfl, rfl, rfl, rfl, rfl, (rd_frame s _).trans (State.twiCmd_frame _ (.send b))⟩
  · rw [sendNextOrStop_of_le hle] at hexec
    exact ⟨_, hexec, rfl, rfl, rfl, rfl,
      ((s.twiCmd_frame .stop).trans (handBack_frame _)).mono (by simp [commandParts])⟩

/-- Settles O34: each of the four branches is a failure, with the error and the command of its
row. -/
theorem failureBranches : Obligations.FailureBranches := by
  intro s i e sym out hi
  simp only [List.mem_cons, List.not_mem_nil, or_false, Prod.mk.injEq] at hi
  obtain ⟨rfl, rfl, rfl, rfl⟩ | ⟨rfl, rfl, rfl, rfl⟩ | ⟨rfl, rfl, rfl, rfl⟩ |
    ⟨rfl, rfl, rfl, rfl⟩ := hi
  all_goals
    exact ⟨_, rfl, rfl, rfl, rfl, rfl, rfl, (failWith_frame _ _ s).mono (by simp [commandParts])⟩

/-! ## The event -/

/-- What the handler may write (R157). -/
theorem twiHandler_frame (s : State) :
    UnchangedBut [.rd, .err, .twiState, .pInt, .pEa, .pOut, .trace] s (twiHandler s) := by
  have hnext : UnchangedBut [.rd, .twiState, .pInt, .pEa, .pOut, .trace] s (sendNextOrStop s) := by
    rcases sendNextOrStop_cases s with ⟨-, h⟩ | ⟨-, h⟩ <;> rw [h]
    · exact ((rd_frame s _).trans (State.twiCmd_frame _ _)).mono (by simp [commandParts])
    · exact ((s.twiCmd_frame .stop).trans (handBack_frame _)).mono (by simp [commandParts])
  rw [twiHandler_eq]
  split
  case h_1 | h_2 | h_9 => exact (s.twiCmd_frame _).mono (by simp [commandParts])
  case h_3 | h_4 => exact hnext.mono (by simp)
  all_goals exact (failWith_frame _ _ s).mono (by simp [commandParts])

/-- Every branch issues one command, which clears the request (R150, R165). -/
theorem twiHandler_int (s : State) : (twiHandler s).per.int = false := by
  rw [twiHandler_eq]
  split
  case h_3 | h_4 => rcases sendNextOrStop_cases s with ⟨-, h⟩ | ⟨-, h⟩ <;> rw [h] <;> rfl
  all_goals rfl

/-- The handler does not look at the enable (R208, R210). -/
theorem twiHandler_setIe (s : State) (b : Bool) :
    twiHandler (s.setIe b) = (twiHandler s).setIe b := by
  have hnext : sendNextOrStop (s.setIe b) = (sendNextOrStop s).setIe b := by
    unfold sendNextOrStop
    rw [State.setIe_drv]
    cases s.drv.hasByte <;> rfl
  rw [twiHandler_eq, twiHandler_eq, State.setIe_per]
  split
  case h_3 | h_4 => exact hnext
  all_goals rfl

/-- An event is taken only while interrupts are enabled (R206). -/
theorem ie_of_mayTake_twi {s : State} (h : s.mayTake .twi = true) : s.core.ie = true := by
  simp only [State.mayTake, State.twiReady, Bool.and_eq_true] at h
  obtain ⟨⟨⟨hie, -⟩, -⟩, -⟩ := h
  exact hie

/-- A taken TWI event is its handler alone: entry and return leave the enable that it needs. -/
theorem takeInterrupt_twi {s : State} (hie : s.core.ie = true) :
    s.takeInterrupt .twi twiHandler = twiHandler s := by
  calc s.takeInterrupt .twi twiHandler
      = ((twiHandler s).setIe false).setIe true := congrArg _ (twiHandler_setIe s false)
    _ = twiHandler (s.setIe true) := (twiHandler_setIe s true).symm
    _ = twiHandler s := by rw [← hie]; rfl

/-- The TWI event that may be taken runs its handler (R206 to R210). -/
theorem execIrqTwi_of_mayTake {s : State} (h : s.mayTake .twi = true) :
    exec .irqTwi s = .next (twiHandler s) :=
  (if_pos h).trans (congrArg _ (takeInterrupt_twi (ie_of_mayTake_twi h)))

/-- The TWI event that may not be taken changes nothing. -/
theorem execIrqTwi_of_not_mayTake {s : State} (h : s.mayTake .twi = false) :
    exec .irqTwi s = .next s :=
  if_neg (by simp [h])

/-- Settles O35: the handler is the branch of the reported class, and a taken event is its
handler. -/
theorem twiEventRunsTheBranchOfItsClass : Obligations.TwiEventRunsTheBranchOfItsClass := by
  refine fun s => ⟨fun hmay => ?_, execIrqTwi_of_not_mayTake⟩
  have hie := ie_of_mayTake_twi hmay
  have hcore : (twiHandler s).core.ie = true := by rw [twiHandler_core, hie]
  exact ⟨_, _, exec_instrOfClass (s.irqEntry .twi), execIrqTwi_of_mayTake hmay,
    (takeInterrupt_twi hie).symm, twiHandler_int s, hcore, hie, twiHandler_frame s⟩

/-! ## One START for each accepted write -/

/-- From `s` to `t` no START is commanded, and the foreground does not begin to wait. -/
structure NoStart (s t : State) : Prop where
  count : t.trace.count .start = s.trace.count .start
  wait : t.core.fg = .twiWait → s.core.fg = .twiWait

/-- A change of neither the trace nor the foreground's phase. -/
theorem NoStart.of_eq {s t : State} (htrace : t.trace = s.trace) (hfg : t.core.fg = s.core.fg) :
    NoStart s t :=
  ⟨by rw [htrace], fun h => hfg ▸ h⟩

/-- A change that leaves the foreground in another phase than the wait. -/
theorem NoStart.of_ne {s t : State} (htrace : t.trace = s.trace) (hfg : t.core.fg ≠ .twiWait) :
    NoStart s t :=
  ⟨by rw [htrace], fun h => absurd h hfg⟩

/-- No effect of a request but the issue of a write appends to the trace. -/
theorem RequestEffect.keeps_trace {i : Instr} {s m : State} (h : RequestEffect i s m) :
    m.trace = s.trace := by
  cases h <;> rfl

/-- A request commands START only where it issues a write. -/
theorem RequestOutcome.noStart_or_issues {i : Instr} {s t : State} (h : RequestOutcome i s t) :
    NoStart s t ∨ ∃ payload, t = issueWrite payload s := by
  cases h with
  | refused e => exact .inl (.of_eq rfl rfl)
  | ended hm c x =>
    obtain ⟨hfg, -, -, -⟩ := hm.keeps_request
    exact .inl (.of_eq hm.keeps_trace hfg)
  | held r v hr => exact .inl (.of_ne rfl FgPhase.noConfusion)
  | issued payload hflag hready hlen => exact .inr ⟨payload, rfl⟩

theorem finishRmw_noStart {r : Byte} {v : Half} {s t : State} (h : finishRmw r v s = .next t) :
    NoStart s t := by
  unfold finishRmw at h
  split at h <;> obtain rfl := Host.Outcome.next.inj h
  · exact .of_eq rfl rfl
  · exact .of_ne rfl FgPhase.noConfusion

theorem awaitWrite_noStart {s t : State} (h : awaitWrite s = .next t) : NoStart s t := by
  unfold awaitWrite at h
  split at h <;> obtain rfl := Host.Outcome.next.inj h
  · exact .of_ne rfl FgPhase.noConfusion
  · exact .of_eq rfl rfl

/-- The foreground commands START only in the issue step of a write, which it takes while idle. -/
theorem foreground_noStart_or_issues {s t : State} (h : foreground s = .next t) :
    NoStart s t ∨ s.core.fg = .idle ∧ ∃ payload, t = issueWrite payload s := by
  rcases foreground_cases s with ⟨-, -, hf⟩ | ⟨q, hidle, -, hf⟩ | ⟨r, v, -, hf⟩ | ⟨-, hf⟩ <;>
    rw [hf] at h
  · exact .inl (Host.Outcome.next.inj h ▸ .of_eq rfl rfl)
  · rcases takeRequest_cases h with ⟨e, rfl⟩ | ⟨i, -, hout⟩
    · exact .inl (.of_eq rfl rfl)
    · exact hout.noStart_or_issues.imp_right fun hissue => ⟨hidle, hissue⟩
  · exact .inl (finishRmw_noStart h)
  · exact .inl (awaitWrite_noStart h)

/-- The handler issues one command, which is never START (R165, R166). -/
theorem twiHandler_trace (s : State) :
    ∃ c, c ≠ .start ∧ (twiHandler s).trace = s.trace ++ commandTrace c := by
  have hnext : ∃ c, c ≠ .start ∧ (sendNextOrStop s).trace = s.trace ++ commandTrace c := by
    rcases sendNextOrStop_cases s with ⟨-, h⟩ | ⟨-, h⟩ <;> rw [h]
    · exact ⟨.send _, TwiCommand.noConfusion, rfl⟩
    · exact ⟨.stop, TwiCommand.noConfusion, rfl⟩
  rw [twiHandler_eq]
  split
  case h_3 | h_4 => exact hnext
  all_goals exact ⟨_, TwiCommand.noConfusion, rfl⟩

/-- Only START puts the START symbol on the bus (R150). -/
theorem count_start_commandTrace {c : TwiCommand} (h : c ≠ .start) :
    (commandTrace c).count .start = 0 := by
  cases c with
  | start => exact absurd rfl h
  | send | stop | release | noack => rfl

theorem twiHandler_noStart (s : State) : NoStart s (twiHandler s) := by
  obtain ⟨c, hc, htrace⟩ := twiHandler_trace s
  refine ⟨?_, fun h => by rwa [twiHandler_core] at h⟩
  rw [htrace, List.count_append, count_start_commandTrace hc, Nat.add_zero]

/-- Neither the Interrupt unit nor the environment commands START. -/
theorem runTurn_noStart {turn : Turn} (hf : turn ≠ .foreground) {s t : State}
    (h : runTurn turn s = .next t) : NoStart s t := by
  cases turn with
  | foreground => exact absurd rfl hf
  | takeTimer =>
    cases hmay : s.mayTake .timer with
    | true =>
      obtain rfl := Host.Outcome.next.inj ((execIrqTimer_of_mayTake hmay).symm.trans h)
      exact .of_eq rfl rfl
    | false =>
      obtain rfl := Host.Outcome.next.inj ((execIrqTimer_of_not_mayTake hmay).symm.trans h)
      exact .of_eq rfl rfl
  | takeTwi =>
    cases hmay : s.mayTake .twi with
    | true =>
      obtain rfl := Host.Outcome.next.inj ((execIrqTwi_of_mayTake hmay).symm.trans h)
      exact twiHandler_noStart s
    | false =>
      obtain rfl := Host.Outcome.next.inj ((execIrqTwi_of_not_mayTake hmay).symm.trans h)
      exact .of_eq rfl rfl
  | timerMatch =>
    obtain rfl := Host.Outcome.next.inj h
    unfold timerMatch
    split <;> exact .of_eq rfl rfl
  | twiReport w =>
    obtain rfl := Host.Outcome.next.inj h
    rcases twiReport_cases w s with hr | ⟨-, c, ph, hr⟩ <;> rw [hr] <;> exact .of_eq rfl rfl
  | pinDrive p l =>
    obtain rfl := Host.Outcome.next.inj h
    unfold pinDrive
    split <;> exact .of_eq rfl rfl

/-- Settles O38: only the foreground commands START, in the issue step in which it begins to
wait. -/
theorem oneStartPerAcceptedWrite : Obligations.OneStartPerAcceptedWrite := by
  intro s t h
  obtain ⟨-, -, hrun⟩ := (step_next_iff s t).1 h
  have hcases : NoStart s.afterTurn t ∨
      s.core.fg = .idle ∧ ∃ payload, t = issueWrite payload s.afterTurn := by
    by_cases hf : s.turn = .foreground
    · exact foreground_noStart_or_issues (s := s.afterTurn) (by rwa [hf] at hrun)
    · exact .inl (runTurn_noStart hf hrun)
  rcases hcases with hno | ⟨hidle, payload, rfl⟩
  · rw [if_neg fun hbegins => hbegins.1 (hno.wait hbegins.2)]
    exact hno.count
  · rw [if_pos ⟨by simp [hidle], rfl⟩]
    exact List.count_append

/-! ## Runs by the schedule -/

/-- A live machine steps by the first turn placed. -/
theorem step_of_schedule {s : State} {turn : Turn} {turns : List Turn}
    (hr : s.core.refused = false) (hw : s.cfg.wf = true)
    (h : s.oracle.schedule = turn :: turns) : step s = runTurn turn s.afterTurn := by
  rw [step_eq_runTurn hr hw, State.turn, h]

/-- One run continued by another. -/
theorem run_trans {m n : Nat} {s t u : State} (h₁ : Host.Core.run core m s = .next t)
    (h₂ : Host.Core.run core n t = .next u) : Host.Core.run core (m + n) s = .next u := by
  induction m generalizing s with
  | zero => cases h₁; rwa [Nat.zero_add]
  | succ m ih =>
    obtain ⟨v, hstep, hrun⟩ := (run_succ_next_iff m s t).1 h₁
    rw [Nat.add_right_comm]
    exact (run_succ_next_iff (m + n) s u).2 ⟨v, hstep, ih hrun⟩

/-- A step is a run of length one. -/
theorem run_one {s t : State} (h : step s = .next t) : Host.Core.run core 1 s = .next t :=
  (run_succ_next_iff 0 s t).2 ⟨t, h, rfl⟩

/-- Two steps are a run of length two. -/
theorem run_two {s t u : State} (h₁ : step s = .next t) (h₂ : step t = .next u) :
    Host.Core.run core 2 s = .next u :=
  run_trans (run_one h₁) (run_one h₂)

/-! ## A write, report by report

A write that `s` is about to issue is followed through its transaction. Between two reports it is
`InFlight`, which says what has been sent and what the slave is to answer; once the handler has
handed the record back, only `OnBus` is left of that, until the foreground returns. -/

/-- The driver record with `payload` filled in and `rd` bytes popped, in the handler's hands. -/
def TwiDriver.filled (d : TwiDriver) (payload : List Byte) (rd : Nat) : TwiDriver :=
  { d with buf := fillBuf d.buf payload, rd := rd, wr := payload.length, err := .none,
           state := .transmitting }

/-- The write begun in `s` has put `sent` on the bus and left the record `drv`; the foreground still
waits, and `turns` are to come. -/
structure OnBus (s : State) (sent : List BusSymbol) (drv : TwiDriver) (turns : List Turn)
    (t : State) : Prop where
  refused : t.core.refused = false
  cfg : t.cfg = s.cfg
  cfgWf : s.cfg.wf = true
  fg : t.core.fg = .twiWait
  next : t.core.next = s.core.next
  responses : t.caller.responses = s.caller.responses
  trace : t.trace = s.trace ++ sent
  record : t.drv = drv
  schedule : t.oracle.schedule = turns

/-- The handler owns the record of the write begun in `s`, of which `rd` bytes are popped, and a TWI
event that pends may be taken. A conforming environment is in phase `phase`. -/
structure UnderWay (s : State) (payload : List Byte) (sent : List BusSymbol) (rd : Nat)
    (phase : BusPhase) (turns : List Turn) (t : State) : Prop
    extends OnBus s sent (s.drv.filled payload rd) turns t where
  priority : s.cfg.irqPriority = .free
  ie : t.core.ie = true
  pEn : t.per.en = true
  pIe : t.per.ie = true
  pPhase : s.cfg.twiEnv = .conforming → t.per.phase = phase

/-- The write is under way and no report pends: the last command, `out`, is to be answered. -/
structure InFlight (s : State) (payload : List Byte) (sent : List BusSymbol) (rd : Nat)
    (out : LastCommand) (phase : BusPhase) (turns : List Turn) (t : State) : Prop
    extends UnderWay s payload sent rd phase turns t where
  pInt : t.per.int = false
  pOut : t.per.out = out

/-- The foreground issues the write: START is on the bus. -/
theorem WriteAboutToRun.issue {s : State} {payload words : List Byte} {rest : List Turn}
    (h : WriteAboutToRun s payload words rest) {turns : List Turn}
    (hturns : s.oracle.schedule = .foreground :: turns) :
    ∃ t, step s = .next t ∧ InFlight s payload [.start] 0 .start s.per.phase turns t := by
  obtain ⟨q, hq, hdec⟩ := h.request
  have hstep : step s = .next (issueWrite payload s.afterTurn) :=
    calc step s
        = foreground s.afterTurn := step_of_schedule h.notRefused h.cfgWf hturns
      _ = exec (.twiWrite payload) s.afterTurn :=
          foreground_of_decoded (s := s.afterTurn) h.fg hq hdec
      _ = .next (issueWrite payload s.afterTurn) :=
          exec_twiWrite_of_fits (s := s.afterTurn) h.instanceExists h.ready h.fits
  exact ⟨_, hstep,
    { refused := h.notRefused, cfg := rfl, cfgWf := h.cfgWf, fg := rfl, next := rfl,
      responses := rfl, trace := rfl, record := rfl, schedule := congrArg List.tail hturns,
      priority := h.priority, ie := h.ie, pEn := h.peripheral, pIe := rfl, pInt := rfl,
      pOut := rfl, pPhase := fun _ => rfl }⟩

/-- With no fixed priority the TWI event needs its own three conditions only (R206, R207). -/
theorem mayTake_twi_of_free {s : State} (hfree : s.cfg.irqPriority = .free)
    (hie : s.core.ie = true) (hpIe : s.per.ie = true) (hint : s.per.int = true) :
    s.mayTake .twi = true := by
  simp [State.mayTake, State.twiReady, hfree, hie, hpIe, hint]

/-- The state with class `c` reported, which leaves a conforming environment in phase `phase`. -/
def State.reported (t : State) (c : StatusClass) (phase : BusPhase) : State :=
  { t with per := { t.per with status := c, int := true, phase := phase } }

/-- An enabled peripheral with no report pending reports what either form of the environment
admits (R213, R214). -/
theorem twiReport_of_admitted {t : State} {w : Byte} {phase : BusPhase} (hen : t.per.en = true)
    (hint : t.per.int = false)
    (hadm : t.cfg.twiEnv = .conforming →
      conformingPhase t.per.out t.per.phase (classOfStatus t.cfg.statusMap w) = some phase) :
    ∃ ph, (t.cfg.twiEnv = .conforming → ph = phase) ∧
      twiReport w t = t.reported (classOfStatus t.cfg.statusMap w) ph := by
  have hmay : t.mayReport = true := by simp [State.mayReport, hen, hint]
  cases henv : t.cfg.twiEnv with
  | unconstrained =>
    refine ⟨t.per.phase, nofun, ?_⟩
    simp only [twiReport, hmay, henv, if_true]
    rfl
  | conforming =>
    refine ⟨phase, fun _ => rfl, ?_⟩
    simp only [twiReport, hmay, henv, hadm henv, if_true]
    rfl

section
variable {s t : State} {payload : List Byte} {sent : List BusSymbol} {rd : Nat}
  {out : LastCommand} {phase phase' : BusPhase} {w : Byte} {turns : List Turn} {c : StatusClass}

/-- One report that the environment may make, and the handler's run for it. -/
theorem InFlight.run_report (h : InFlight s payload sent rd out phase (reportAndTake w ++ turns) t)
    (hclass : classOfStatus s.cfg.statusMap w = c)
    (hadm : conformingPhase out phase c = some phase') :
    ∃ u : State, Host.Core.run core 2 t = .next (twiHandler u) ∧ u.per.status = c ∧
      UnderWay s payload sent rd phase' turns u := by
  have hclass' : classOfStatus t.cfg.statusMap w = c := by rw [h.cfg, hclass]
  obtain ⟨ph, hph, hreport⟩ := twiReport_of_admitted (t := t.afterTurn) (w := w) (phase := phase')
    h.pEn h.pInt fun henv => by
      rw [State.afterTurn_cfg, h.cfg] at henv
      rw [State.afterTurn_per, State.afterTurn_cfg, h.pOut, h.pPhase henv, hclass', hadm]
  rw [State.afterTurn_cfg, hclass'] at hreport
  have hstep : step t = .next (t.afterTurn.reported c ph) :=
    (step_of_schedule h.refused (h.cfg ▸ h.cfgWf) h.schedule).trans (congrArg _ hreport)
  have hafter : UnderWay s payload sent rd phase' turns (t.afterTurn.reported c ph).afterTurn :=
    { h with
      schedule := congrArg (List.tail ∘ List.tail) h.schedule
      pPhase := fun henv => hph (h.cfg ▸ henv) }
  have hmay : (t.afterTurn.reported c ph).afterTurn.mayTake .twi = true :=
    mayTake_twi_of_free (by rw [hafter.cfg, h.priority]) hafter.ie hafter.pIe rfl
  have hschedule : (t.afterTurn.reported c ph).oracle.schedule = .takeTwi :: turns :=
    congrArg List.tail h.schedule
  have htake : step (t.afterTurn.reported c ph) =
      .next (twiHandler (t.afterTurn.reported c ph).afterTurn) :=
    (step_of_schedule (s := t.afterTurn.reported c ph) h.refused (h.cfg ▸ h.cfgWf) hschedule).trans
      (execIrqTwi_of_mayTake hmay)
  exact ⟨_, run_two hstep htake, rfl, hafter⟩

/-- START answered: the address byte is sent. -/
theorem InFlight.run_start (h : InFlight s payload sent 0 .start phase (reportAndTake w ++ turns) t)
    (hclass : classOfStatus s.cfg.statusMap w = .start) :
    ∃ u : State, Host.Core.run core 2 t = .next u ∧
      InFlight s payload (sent ++ [.byte s.drv.sla]) 0 .send .addr turns u := by
  obtain ⟨u, hrun, hstatus, hu⟩ := h.run_report (phase' := .addr) hclass (by cases phase <;> rfl)
  have hhandler : twiHandler u = u.twiCmd (.send s.drv.sla) := by
    rw [twiHandler_eq, hstatus, sendAddress_eq, hu.record]
    rfl
  rw [hhandler] at hrun
  exact ⟨_, hrun, { hu with
    trace := by rw [State.twiCmd_trace, hu.trace, List.append_assoc]; rfl
    pInt := rfl
    pOut := rfl }⟩

end

/-- Words whose classes end in `c` end in a word of class `c`. -/
theorem exists_last_word {f : Byte → StatusClass} {words : List Byte} {classes : List StatusClass}
    {c : StatusClass} (h : words.map f = classes ++ [c]) :
    ∃ ws w, words = ws ++ [w] ∧ ws.map f = classes ∧ f w = c := by
  obtain ⟨ws, last, rfl, hws, hlast⟩ := List.map_eq_append_iff.1 h
  obtain ⟨w, rfl, hw⟩ := List.map_eq_singleton_iff.1 hlast
  exact ⟨ws, w, rfl, hws, hw⟩

/-! ### Acknowledgments -/

/-- How the address, and after it each byte of the payload, is acknowledged. -/
def ackClass : Nat → StatusClass
  | 0 => .slaAck
  | _ + 1 => .dataAck

/-- The phase in which a conforming environment answers the address, and after it each byte. -/
def ackPhase : Nat → BusPhase
  | 0 => .addr
  | _ + 1 => .data

/-- The first `n` acknowledgments of a transaction. -/
def acks : Nat → List StatusClass
  | 0 => []
  | n + 1 => acks n ++ [ackClass n]

/-- The address acknowledged, and `n` bytes. -/
theorem acks_succ (n : Nat) : acks (n + 1) = .slaAck :: List.replicate n .dataAck := by
  induction n with
  | zero => rfl
  | succ n ih => rw [acks, ih, List.replicate_succ']; rfl

theorem conformingPhase_ack (n : Nat) :
    conformingPhase .send (ackPhase n) (ackClass n) = some (ackPhase (n + 1)) := by
  cases n <;> rfl

/-- The address and a byte are acknowledged to the same branch (R159). -/
theorem twiHandler_of_ack {n : Nat} {u : State} (h : u.per.status = ackClass n) :
    twiHandler u = sendNextOrStop u := by
  rw [twiHandler_eq, h]
  cases n <;> rfl

section
variable {s t : State} {payload : List Byte} {sent : List BusSymbol} {w : Byte} {turns : List Turn}

/-- An acknowledgment while a byte is left: the byte is sent. -/
theorem InFlight.run_ack {rd : Nat}
    (h : InFlight s payload sent rd .send (ackPhase rd) (reportAndTake w ++ turns) t)
    (hclass : classOfStatus s.cfg.statusMap w = ackClass rd) (hlt : rd < payload.length) :
    ∃ u : State, Host.Core.run core 2 t = .next u ∧
      InFlight s payload (sent ++ [.byte payload[rd]]) (rd + 1) .send (ackPhase (rd + 1)) turns
        u := by
  obtain ⟨u, hrun, hstatus, hu⟩ := h.run_report hclass (conformingPhase_ack rd)
  have hbyte : u.drv.buf[u.drv.rd]? = some payload[rd] := by
    rw [hu.record]
    exact (fillBuf_getElem?_of_lt hlt).trans (List.getElem?_eq_getElem hlt)
  have hleft : u.drv.rd < u.drv.wr := by rw [hu.record]; exact hlt
  rw [twiHandler_of_ack hstatus, sendNextOrStop_of_lt hleft hbyte] at hrun
  exact ⟨_, hrun, { hu with
    trace := by rw [State.twiCmd_trace, hu.trace, List.append_assoc]; rfl
    record := by rw [State.twiCmd_drv, hu.record]; rfl
    pInt := rfl
    pOut := rfl }⟩

/-- The acknowledgment of the last byte: the bus is stopped and the record handed back. -/
theorem InFlight.run_lastAck
    (h : InFlight s payload sent payload.length .send (ackPhase payload.length)
      (reportAndTake w ++ turns) t)
    (hclass : classOfStatus s.cfg.statusMap w = ackClass payload.length) :
    ∃ u : State, Host.Core.run core 2 t = .next u ∧
      OnBus s (sent ++ [.stop]) { s.drv.filled payload payload.length with state := .ready } turns
        u := by
  obtain ⟨u, hrun, hstatus, hu⟩ := h.run_report hclass (conformingPhase_ack _)
  have hempty : u.drv.wr ≤ u.drv.rd := by rw [hu.record]; exact le_rfl
  rw [twiHandler_of_ack hstatus, sendNextOrStop_of_le hempty] at hrun
  exact ⟨_, hrun, { hu with
    trace := by rw [handBack_trace, State.twiCmd_trace, hu.trace, List.append_assoc]; rfl
    record := by rw [← hu.record]; rfl }⟩

/-- START answered and `n` acknowledgments given: the address and `n` bytes have been sent. -/
theorem InFlight.run_acks {phase : BusPhase} {n : Nat} (hn : n ≤ payload.length) {words : List Byte}
    (h : InFlight s payload [.start] 0 .start phase (words.flatMap reportAndTake ++ turns) t)
    (hclasses : words.map (classOfStatus s.cfg.statusMap) = .start :: acks n) :
    ∃ u : State, Host.Core.run core (2 * (n + 1)) t = .next u ∧
      InFlight s payload ([.start, .byte s.drv.sla] ++ (payload.take n).map .byte) n .send
        (ackPhase n) turns u := by
  induction n generalizing words turns with
  | zero =>
    obtain ⟨w, rfl, hw⟩ := List.map_eq_singleton_iff.1 hclasses
    exact InFlight.run_start (by simpa using h) hw
  | succ n ih =>
    rw [acks, ← List.cons_append] at hclasses
    obtain ⟨ws, w, rfl, hws, hw⟩ := exists_last_word hclasses
    obtain ⟨u, hrun, hu⟩ := ih (Nat.le_of_succ_le hn) (by simpa using h) hws
    obtain ⟨v, hrun', hv⟩ := InFlight.run_ack hu hw hn
    have hbytes : (payload.take (n + 1)).map BusSymbol.byte =
        (payload.take n).map BusSymbol.byte ++ [.byte payload[n]] := by
      rw [← List.take_append_getElem hn, List.map_append, List.map_singleton]
    rw [hbytes, ← List.append_assoc]
    exact ⟨v, run_trans hrun hrun', hv⟩

end

/-! ### Failures -/

/-- A class that ends a transaction, with the error that the response names and the symbol that ends
it (R160 to R163). -/
def failureRows : List (StatusClass × RespCode × BusSymbol) :=
  [(.slaNack, .sendAddressNack, .stop), (.dataNack, .sendDataNack, .stop),
   (.arbLost, .arbitrationLost, .release), (.busError, .busError, .stop)]

/-- The handler's branch of a class of a row. -/
theorem twiHandler_of_failure {c : StatusClass} {e : RespCode} {sym : BusSymbol}
    (hrow : (c, e, sym) ∈ failureRows) :
    ∃ err cmd, codeOfError err = e ∧ commandTrace cmd = [sym] ∧
      ∀ u : State, u.per.status = c → twiHandler u = failWith err cmd u := by
  simp only [failureRows, List.mem_cons, List.not_mem_nil, or_false, Prod.mk.injEq] at hrow
  obtain ⟨rfl, rfl, rfl⟩ | ⟨rfl, rfl, rfl⟩ | ⟨rfl, rfl, rfl⟩ | ⟨rfl, rfl, rfl⟩ := hrow
  · exact ⟨.sendAddressNack, .stop, rfl, rfl, fun u hu => by rw [twiHandler_eq, hu]⟩
  · exact ⟨.sendDataNack, .stop, rfl, rfl, fun u hu => by rw [twiHandler_eq, hu]⟩
  · exact ⟨.arbitrationLost, .release, rfl, rfl, fun u hu => by rw [twiHandler_eq, hu]⟩
  · exact ⟨.busError, .stop, rfl, rfl, fun u hu => by rw [twiHandler_eq, hu]⟩

/-! ### The return -/

section
variable {s t : State} {payload : List Byte} {sent : List BusSymbol} {rest : List Turn}

/-- Once the record is handed back the foreground returns with the response that the error slot
names (R155). -/
theorem OnBus.run_return {k : Nat} {drv : TwiDriver}
    (h : OnBus s sent drv (.foreground :: rest) t) (hrun : Host.Core.run core k s = .next t)
    (hready : drv.state = .ready) :
    ∃ u : State, Host.Core.run core (k + 1) s = .next u ∧ u.trace = s.trace ++ sent ∧
      Responded s u (codeOfError drv.err) 0#16 ∧ u.core.fg = .idle ∧ u.drv = drv ∧
      u.oracle.schedule = rest := by
  have hstate : t.afterTurn.drv.state = .ready := by rw [State.afterTurn_drv, h.record, hready]
  have hstep : step t = .next
      ((t.afterTurn.setFg .idle).respond (codeOfError t.afterTurn.drv.err) 0#16) :=
    calc step t
        = foreground t.afterTurn := step_of_schedule h.refused (h.cfg ▸ h.cfgWf) h.schedule
      _ = awaitWrite t.afterTurn := foreground_of_twiWait (s := t.afterTurn) h.fg
      _ = _ := if_pos hstate
  rw [State.afterTurn_drv, h.record] at hstep
  exact ⟨_, run_trans hrun (run_one hstep), h.trace,
    ⟨congrArg (· + 1) h.next, congrArg (· ++ _) h.responses⟩, rfl, h.record,
    congrArg List.tail h.schedule⟩

/-- A failure reported in a write under way ends it: the bus is left with the symbol of the row, no
further byte is popped, and the response names the error. -/
theorem InFlight.run_failure {k rd : Nat} {out : LastCommand} {phase phase' : BusPhase} {w : Byte}
    {c : StatusClass} {e : RespCode} {sym : BusSymbol}
    (h : InFlight s payload sent rd out phase (reportAndTake w ++ .foreground :: rest) t)
    (hrun : Host.Core.run core k s = .next t) (hclass : classOfStatus s.cfg.statusMap w = c)
    (hadm : conformingPhase out phase c = some phase') (hrow : (c, e, sym) ∈ failureRows) :
    ∃ u : State, Host.Core.run core (k + 3) s = .next u ∧ u.trace = s.trace ++ (sent ++ [sym]) ∧
      Responded s u e 0#16 ∧ u.core.fg = .idle ∧ u.drv.state = .ready ∧ u.drv.rd = rd ∧
      u.oracle.schedule = rest := by
  obtain ⟨u, hrun', hstatus, hu⟩ := h.run_report hclass hadm
  obtain ⟨err, cmd, rfl, hcmd, hhandler⟩ := twiHandler_of_failure hrow
  rw [hhandler u hstatus] at hrun'
  have hback : OnBus s (sent ++ [sym]) { s.drv.filled payload rd with err := err, state := .ready }
      (.foreground :: rest) (failWith err cmd u) :=
    { hu with
      trace := by
        rw [← hcmd, ← List.append_assoc, ← hu.trace]
        rfl
      record := by
        rw [← hu.record]
        rfl }
  obtain ⟨v, hret, htrace, hresp, hfg, hdrv, hrest⟩ :=
    hback.run_return (run_trans hrun hrun') rfl
  exact ⟨v, hret, htrace, hresp, hfg, congrArg TwiDriver.state hdrv, congrArg TwiDriver.rd hdrv,
    hrest⟩

end

/-! ### The transactions -/

/-- The turns of a transaction whose last word stands apart. -/
theorem transaction_append_singleton (words : List Byte) (w : Byte) (rest : List Turn) :
    transaction (words ++ [w]) ++ rest =
      .foreground :: (words.flatMap reportAndTake ++ (reportAndTake w ++ .foreground :: rest)) := by
  simp [transaction]

/-- The issue, START answered, and `n` acknowledgments: what follows is the last word. -/
theorem WriteAboutToRun.run_acks {s : State} {payload words : List Byte} {w : Byte}
    {rest : List Turn} {n : Nat} (h : WriteAboutToRun s payload (words ++ [w]) rest)
    (hn : n ≤ payload.length)
    (hclasses : words.map (classOfStatus s.cfg.statusMap) = .start :: acks n) :
    ∃ t : State, Host.Core.run core (2 * n + 3) s = .next t ∧
      InFlight s payload ([.start, .byte s.drv.sla] ++ (payload.take n).map .byte) n .send
        (ackPhase n) (reportAndTake w ++ .foreground :: rest) t := by
  obtain ⟨t, hstep, ht⟩ := h.issue (h.turns.trans (transaction_append_singleton words w rest))
  obtain ⟨u, hrun, hu⟩ := ht.run_acks hn hclasses
  have hlen : 1 + 2 * (n + 1) = 2 * n + 3 := by omega
  exact ⟨u, hlen ▸ run_trans (run_one hstep) hrun, hu⟩

/-- Settles O40: after all acknowledgments but the last the whole payload has been sent, and the
last one ends the transaction. -/
theorem acknowledgedWriteSendsWholePayload : Obligations.AcknowledgedWriteSendsWholePayload := by
  intro s payload words rest h hclasses
  have hacks : words.map (classOfStatus s.cfg.statusMap) =
      (.start :: acks payload.length) ++ [ackClass payload.length] :=
    hclasses.trans (congrArg (StatusClass.start :: ·) (acks_succ payload.length).symm)
  obtain ⟨ws, w, rfl, hws, hw⟩ := exists_last_word hacks
  obtain ⟨t, hrun, ht⟩ := h.run_acks le_rfl hws
  obtain ⟨u, hrun', hu⟩ := ht.run_lastAck hw
  obtain ⟨v, hret, htrace, hresp, hfg, hdrv, hrest⟩ := hu.run_return (run_trans hrun hrun') rfl
  exact ⟨v, hret, by simpa using htrace, hresp, hfg, congrArg TwiDriver.state hdrv,
    congrArg TwiDriver.err hdrv, congrArg TwiDriver.rd hdrv, congrArg TwiDriver.wr hdrv, hrest⟩

/-- Settles O41: after `k + 1` acknowledgments `k + 1` bytes have been sent, and the failure ends
the transaction. -/
theorem failedWriteSendsPrefix : Obligations.FailedWriteSendsPrefix := by
  intro s payload words rest k c e sym h hk hrow hclasses
  have hacks : words.map (classOfStatus s.cfg.statusMap) = (.start :: acks (k + 1)) ++ [c] := by
    rw [hclasses, acks_succ]
    rfl
  obtain ⟨ws, w, rfl, hws, hw⟩ := exists_last_word hacks
  obtain ⟨t, hrun, ht⟩ := h.run_acks hk hws
  have hadm : conformingPhase .send (ackPhase (k + 1)) c = some .idle := by
    simp only [List.mem_cons, List.not_mem_nil, or_false, Prod.mk.injEq] at hrow
    obtain ⟨rfl, -⟩ | ⟨rfl, -⟩ | ⟨rfl, -⟩ := hrow <;> rfl
  obtain ⟨u, hrun', htrace, hresp, hfg, hstate, -, hrest⟩ :=
    ht.run_failure hrun hw hadm (List.mem_cons_of_mem _ hrow)
  exact ⟨u, hrun', by simpa using htrace, hresp, hfg, hstate, hrest⟩

/-- Settles O42: the failure is reported in answer to the address, or in answer to START, when no
byte is popped. -/
theorem writeFailingBeforeDataSendsNoByte : Obligations.WriteFailingBeforeDataSendsNoByte := by
  intro s payload words rest c e sym h hrow
  have hfail : (c, e, sym) ∈ failureRows := by
    revert hrow
    simp only [failureRows, List.mem_cons, List.not_mem_nil, or_false]
    tauto
  simp only [List.mem_cons, List.not_mem_nil, or_false, Prod.mk.injEq] at hrow
  refine ⟨fun hclasses => ?_, fun hne hclasses => ?_⟩
  · have hsplit : words.map (classOfStatus s.cfg.statusMap) = (.start :: acks 0) ++ [c] := hclasses
    obtain ⟨ws, w, rfl, hws, hw⟩ := exists_last_word hsplit
    obtain ⟨t, hrun, ht⟩ := h.run_acks (Nat.zero_le _) hws
    have hadm : conformingPhase .send .addr c = some .idle := by
      obtain ⟨rfl, -⟩ | ⟨rfl, -⟩ | ⟨rfl, -⟩ := hrow <;> rfl
    obtain ⟨u, hrun', htrace, hresp, hfg, hstate, hrd, -⟩ := ht.run_failure hrun hw hadm hfail
    exact ⟨u, hrun', by simpa using htrace, hresp, hfg, hstate, hrd⟩
  · obtain ⟨w, rfl, hw⟩ := List.map_eq_singleton_iff.1 hclasses
    obtain ⟨t, hstep, ht⟩ := h.issue (h.turns.trans (transaction_append_singleton [] w rest))
    have hadm : conformingPhase .start s.per.phase c = some .idle := by
      obtain ⟨rfl, -⟩ | ⟨rfl, -⟩ | ⟨rfl, -⟩ := hrow
      · exact absurd rfl hne
      all_goals cases s.per.phase <;> rfl
    obtain ⟨u, hrun', htrace, hresp, hfg, hstate, hrd, -⟩ :=
      ht.run_failure (run_one hstep) hw hadm hfail
    exact ⟨u, hrun', by simpa using htrace, hresp, hfg, hstate, hrd⟩

end Sys2Proof.Machine

/-! PROOF. The statements of 60_exceptions.md: the order of the two events (R207, R209), the absence
of traps (R200), and the steps of the environment (R212 to R215). -/

namespace Sys2Proof.Machine

/-! ## The order of the events

The timer event changes the Clock alone, and the TWI event neither reads nor writes the Clock. -/

/-- The state with another Clock. -/
def State.withClock (s : State) (c : ClockState) : State := { s with clock := c }

/-- The Clock that a taken timer event leaves: a tick later, with no match pending (R139, R208). -/
def ClockState.ticked (g : Widths) (c : ClockState) : ClockState :=
  { c with tick := nextTick g c.tick, timPend := false }

/-- The timer event that may be taken changes the Clock alone: its return sets the enable that it
needs. -/
theorem execIrqTimer_eq_withClock {s : State} (h : s.mayTake .timer = true) :
    exec .irqTimer s = .next (s.withClock (s.clock.ticked s.cfg.toWidths)) := by
  rw [execIrqTimer_of_mayTake h, takeInterrupt_timer, ← ie_of_mayTake_timer h]
  rfl

/-- The TWI handler does not look at the Clock. -/
theorem twiHandler_withClock (s : State) (c : ClockState) :
    twiHandler (s.withClock c) = (twiHandler s).withClock c := by
  have hdrv : (s.withClock c).drv = s.drv := rfl
  have hper : (s.withClock c).per = s.per := rfl
  have hnext : sendNextOrStop (s.withClock c) = (sendNextOrStop s).withClock c := by
    unfold sendNextOrStop
    rw [hdrv]
    cases s.drv.hasByte <;> rfl
  rw [twiHandler_eq, twiHandler_eq, hper]
  split
  case h_3 | h_4 => exact hnext
  all_goals rfl

theorem twiHandler_clock (s : State) : (twiHandler s).clock = s.clock := by
  have hsame : twiHandler s = (twiHandler s).withClock s.clock := twiHandler_withClock s s.clock
  rw [hsame]
  rfl

theorem twiHandler_cfg (s : State) : (twiHandler s).cfg = s.cfg :=
  twiHandler_frame s .cfg (by decide)

/-- With no fixed priority a ready timer event may be taken, whatever else is ready (R207). -/
theorem mayTake_timer_of_ready {s : State} (hfree : s.cfg.irqPriority = .free)
    (hready : s.timerReady = true) : s.mayTake .timer = true := by
  simp [State.mayTake, hfree, hready]

/-- With no fixed priority a ready TWI event may be taken, whatever else is ready (R207). -/
theorem mayTake_twi_of_ready {s : State} (hfree : s.cfg.irqPriority = .free)
    (hready : s.twiReady = true) : s.mayTake .twi = true := by
  simp [State.mayTake, hfree, hready]

/-- The TWI handler leaves the timer event as ready as it was: it writes neither the enable nor the
Clock. -/
theorem twiHandler_timerReady (s : State) : (twiHandler s).timerReady = s.timerReady := by
  rw [State.timerReady, twiHandler_core, twiHandler_clock, State.timerReady]

/-- Settles O36: each event leaves the other one ready, and a change of the Clock may be made before
or after the handler's run. -/
theorem eventOrderDoesNotMatter : Obligations.EventOrderDoesNotMatter := by
  intro s hfree htimer htwi
  have hmayTimer := mayTake_timer_of_ready hfree htimer
  have hmayTwi := mayTake_twi_of_ready hfree htwi
  have hafterTimer : (s.withClock (s.clock.ticked s.cfg.toWidths)).mayTake .twi = true :=
    mayTake_twi_of_ready hfree htwi
  have hafterTwi : (twiHandler s).mayTake .timer = true :=
    mayTake_timer_of_ready (by rw [twiHandler_cfg, hfree]) (by rw [twiHandler_timerReady, htimer])
  have hlast := execIrqTimer_eq_withClock hafterTwi
  rw [twiHandler_clock, twiHandler_cfg, ← twiHandler_withClock] at hlast
  exact ⟨hmayTimer, hmayTwi, _, _, _, execIrqTimer_eq_withClock hmayTimer, hafterTimer,
    execIrqTwi_of_mayTake hafterTimer, execIrqTwi_of_mayTake hmayTwi, hafterTwi, hlast⟩

/-! ## No trap -/

/-- A silent change with at most one response is a next state. -/
theorem AtMostResponds.answers_next {s : State} {r : Result} (h : AtMostResponds s r) :
    ∃ t, r = .next t := by
  obtain ⟨m, -, hr | ⟨c, x, hr⟩⟩ := h
  · exact ⟨m, hr⟩
  · exact ⟨_, hr⟩

/-- Every agent's step answers a next state. -/
theorem runTurn_answers_next (turn : Turn) (s : State) : ∃ t, runTurn turn s = .next t := by
  rcases runTurn_cases turn s with ⟨-, -, h⟩ | ⟨-, h⟩
  · exact ⟨_, h⟩
  · exact h.answers_next

/-- Every instruction answers a next state. -/
theorem exec_answers_next (i : Instr) (s : State) : ∃ t, exec i s = .next t := by
  by_cases hi : i = .irqTimer
  · rw [hi]
    exact runTurn_answers_next .takeTimer s
  · exact (exec_atMostResponds hi s).answers_next

/-- Settles O12: a live step is an agent's step, and neither an agent nor an instruction traps. -/
theorem nothingTraps : Obligations.NothingTraps := by
  refine ⟨exec_answers_next, fun s hr hw => ?_⟩
  rw [step_eq_runTurn hr hw]
  exact runTurn_answers_next s.turn s.afterTurn

/-! ## The agents of the environment -/

/-- What is left alone by the agent whose turn it is, the step leaves alone. -/
theorem UnchangedBut.of_turn {parts : List Part} {s t : State}
    (h : UnchangedBut parts s.afterTurn t) : UnchangedBut (parts ++ [.schedule, .turns]) s t :=
  (s.afterTurn_frame.trans h).mono (by simp)

/-- A live machine steps by the agent whose turn it is. -/
theorem step_of_turn {s : State} {turn : Turn} (hr : s.core.refused = false)
    (hw : s.cfg.wf = true) (h : s.turn = turn) : step s = runTurn turn s.afterTurn :=
  h ▸ step_eq_runTurn hr hw

/-! ### The Timer source -/

/-- A match is raised where the timer is on, and coalesces with a pending one (R141, R212). -/
theorem timerMatch_eq (s : State) :
    timerMatch s =
      { s with clock := { s.clock with timPend := s.clock.timPend || s.clock.timEn } } := by
  unfold timerMatch
  split
  · next h => rw [h, Bool.or_true]
  · next h => rw [Bool.eq_false_of_not_eq_true h, Bool.or_false]

/-! ### The TWI environment -/

/-- A report changes the status and the pending bit alone. -/
theorem State.report_frame (s : State) (c : StatusClass) :
    UnchangedBut [.pStatus, .pInt] s (s.report c) := by
  intro p hp; cases p <;> simp_all [Part.agree, State.pin]

/-- A conforming report writes the phase too. -/
theorem State.reported_frame (s : State) (c : StatusClass) (phase : BusPhase) :
    UnchangedBut [.pStatus, .pInt, .pPhase] s (s.reported c phase) := by
  intro p hp; cases p <;> simp_all [Part.agree, State.pin, State.reported]

theorem State.mayReport_iff (s : State) :
    s.mayReport = true ↔ s.per.en = true ∧ s.per.int = false := by
  simp [State.mayReport]

/-- With the peripheral off, or a report pending, the environment changes nothing. -/
theorem twiReport_of_not_mayReport {s : State} (h : s.per.en = false ∨ s.per.int = true)
    (w : Byte) : twiReport w s = s := by
  have hno : ¬ s.mayReport = true := by
    rw [s.mayReport_iff]
    rcases h with h | h <;> simp [h]
  exact if_neg hno

/-- The unconstrained environment reports the class of any word (R213). -/
theorem twiReport_of_unconstrained {s : State} (henv : s.cfg.twiEnv = .unconstrained)
    (hen : s.per.en = true) (hint : s.per.int = false) (w : Byte) :
    twiReport w s = s.report (classOfStatus s.cfg.statusMap w) := by
  have hmay := s.mayReport_iff.2 ⟨hen, hint⟩
  simp only [twiReport, hmay, henv, if_true]

/-- A conforming environment does not report a class that has no row (R214). -/
theorem twiReport_of_unlisted {s : State} {w : Byte} (henv : s.cfg.twiEnv = .conforming)
    (h : ∀ ph, (classOfStatus s.cfg.statusMap w, ph) ∉ conformingRows s.per.out s.per.phase) :
    twiReport w s = s := by
  have hnone : conformingPhase s.per.out s.per.phase (classOfStatus s.cfg.statusMap w) = none :=
    Option.eq_none_iff_forall_ne_some.2 fun ph hph =>
      h ph ((conformingPhase_eq_some_iff _ _ _ _).1 hph)
  simp only [twiReport, henv, hnone, ite_self]

/-- A conforming environment reports a class that has a row, and takes that row's phase (R214). -/
theorem twiReport_of_listed {s : State} {w : Byte} {phase : BusPhase}
    (henv : s.cfg.twiEnv = .conforming) (hen : s.per.en = true) (hint : s.per.int = false)
    (h : (classOfStatus s.cfg.statusMap w, phase) ∈ conformingRows s.per.out s.per.phase) :
    twiReport w s = s.reported (classOfStatus s.cfg.statusMap w) phase := by
  obtain ⟨ph, hph, hreport⟩ := twiReport_of_admitted hen hint fun _ =>
    (conformingPhase_eq_some_iff _ _ _ _).2 h
  rw [hreport, hph henv]

/-! ### The Pin environment -/

/-- Putting a pin changes the pins alone. -/
theorem State.setPin_frame (s : State) (p : PinId) (v : Pin) :
    UnchangedBut [.pins] s (s.setPin p v) := by
  intro q hq; cases q <;> simp_all [Part.agree]

/-- A level put on a pin of the machine (R215). -/
theorem pinDrive_of_pin {s : State} {p : PinId} (h : s.cfg.hasPin p = true) (l : ExtLevel) :
    pinDrive p l s = s.setPin p { s.pin p with ext := l } :=
  if_pos h

/-- What is no pin of the machine takes no level. -/
theorem pinDrive_of_not_pin {s : State} {p : PinId} (h : s.cfg.hasPin p = false) (l : ExtLevel) :
    pinDrive p l s = s :=
  if_neg (by simp [h])

/-! ### The steps -/

/-- Settles O58: each clause is the turn of one agent, which finds the state as it was but for the
schedule. -/
theorem environmentStepsChangeOnlyTheirOwn : Obligations.EnvironmentStepsChangeOnlyTheirOwn := by
  intro s hr hw
  have hstep {turn : Turn} {t : State} (hturn : s.turn = turn)
      (ht : runTurn turn s.afterTurn = .next t) : step s = .next t :=
    (step_of_turn hr hw hturn).trans ht
  refine ⟨fun hturn => ?_, fun w hturn henv hen hint => ?_, fun w hturn hoff => ?_,
    fun p l hturn hpin => ?_, fun p l hturn hpin => ?_⟩
  · have hmatch := timerMatch_eq s.afterTurn
    exact ⟨_, hstep hturn (congrArg Host.Outcome.next hmatch), rfl,
      (timPend_frame s.afterTurn _).of_turn⟩
  · have hreport := twiReport_of_unconstrained (s := s.afterTurn) henv hen hint w
    exact ⟨_, hstep hturn (congrArg Host.Outcome.next hreport), rfl, rfl,
      (s.afterTurn.report_frame _).of_turn⟩
  · have hidle := twiReport_of_not_mayReport (s := s.afterTurn) hoff w
    exact ⟨_, hstep hturn (congrArg Host.Outcome.next hidle), s.afterTurn_frame⟩
  · have hidle := pinDrive_of_not_pin (s := s.afterTurn) hpin l
    exact ⟨_, hstep hturn (congrArg Host.Outcome.next hidle), s.afterTurn_frame⟩
  · have hdrive := pinDrive_of_pin (s := s.afterTurn) hpin l
    exact ⟨_, hstep hturn (congrArg Host.Outcome.next hdrive), s.afterTurn.pin_setPin_same p _,
      fun q hq => s.afterTurn.pin_setPin_ne _ hq, (s.afterTurn.setPin_frame p _).of_turn⟩

/-- Settles O59: what the environment does in its turn is decided by whether the class has a row. -/
theorem conformingReportsFollowTheTable : Obligations.ConformingReportsFollowTheTable := by
  intro s w hr hw henv hturn hen hint
  refine ⟨twiReport w s.afterTurn, step_of_turn hr hw hturn, fun ph hlisted => ?_,
    fun hunlisted => ?_⟩
  · rw [twiReport_of_listed (s := s.afterTurn) henv hen hint hlisted]
    exact ⟨rfl, rfl, rfl, (s.afterTurn.reported_frame _ ph).of_turn⟩
  · rw [twiReport_of_unlisted (s := s.afterTurn) henv hunlisted]
    exact s.afterTurn_frame

end Sys2Proof.Machine

/-! PROOF. The hazard of 70_reset_and_hazards.md R248: a write in flight with interrupts disabled. -/

namespace Sys2Proof.Machine

/-! ## The write that hangs

With interrupts disabled the Interrupt unit takes no event, the waiting foreground holds, and the
environment writes only the Clock, the peripheral and the pins. -/

/-- What the environment never writes: the core, the driver record and the caller. -/
def State.software (s : State) : CoreState × TwiDriver × Caller := (s.core, s.drv, s.caller)

/-- That a write hangs is told by the core and the driver record. -/
theorem State.hung.of_software_eq {s t : State} (hs : s.hung) (h : t.software = s.software) :
    t.hung := by
  simp only [State.software, Prod.mk.injEq] at h
  obtain ⟨hcore, hdrv, -⟩ := h
  rwa [State.hung, hcore, hdrv]

/-- With interrupts disabled no event may be taken (R206). -/
theorem mayTake_of_ie_eq_false {s : State} (h : s.core.ie = false) (e : Irq) :
    s.mayTake e = false := by
  refine Bool.eq_false_of_not_eq_true fun hmay => Bool.false_ne_true (h.symm.trans ?_)
  cases e with
  | timer => exact ie_of_mayTake_timer hmay
  | twi => exact ie_of_mayTake_twi hmay

theorem timerMatch_software (s : State) : (timerMatch s).software = s.software := by
  rw [timerMatch_eq]
  rfl

theorem twiReport_software (w : Byte) (s : State) : (twiReport w s).software = s.software := by
  rcases twiReport_cases w s with h | ⟨-, c, ph, h⟩ <;> rw [h]
  rfl

theorem pinDrive_software (p : PinId) (l : ExtLevel) (s : State) :
    (pinDrive p l s).software = s.software := by
  cases hp : s.cfg.hasPin p with
  | true => rw [pinDrive_of_pin hp]; rfl
  | false => rw [pinDrive_of_not_pin hp]

/-- While a write hangs no agent touches the core, the driver record or the caller: the foreground
holds (R154), no event is taken, and the rest is the environment. -/
theorem runTurn_software_of_hung {turn : Turn} {s t : State} (hs : s.hung)
    (h : runTurn turn s = .next t) : t.software = s.software := by
  obtain ⟨hie, hfg, hstate⟩ := hs
  cases turn with
  | foreground =>
    have hhold := (waitingWriteHoldsAndReturns s hfg).1 hstate
    rw [Host.Outcome.next.inj (hhold.symm.trans h)]
  | takeTimer =>
    have hnone := execIrqTimer_of_not_mayTake (mayTake_of_ie_eq_false hie .timer)
    rw [Host.Outcome.next.inj (hnone.symm.trans h)]
  | takeTwi =>
    have hnone := execIrqTwi_of_not_mayTake (mayTake_of_ie_eq_false hie .twi)
    rw [Host.Outcome.next.inj (hnone.symm.trans h)]
  | timerMatch => exact Host.Outcome.next.inj h ▸ timerMatch_software s
  | twiReport w => exact Host.Outcome.next.inj h ▸ twiReport_software w s
  | pinDrive p l => exact Host.Outcome.next.inj h ▸ pinDrive_software p l s

theorem step_software_of_hung {s t : State} (hs : s.hung) (h : step s = .next t) :
    t.software = s.software := by
  obtain ⟨-, -, hrun⟩ := (step_next_iff s t).1 h
  exact runTurn_software_of_hung (s := s.afterTurn) hs hrun

/-- A hung write hangs after every step, so a whole run leaves the software side as it was. -/
theorem run_software_of_hung (n : Nat) {s u : State} (hs : s.hung)
    (h : Host.Core.run core n s = .next u) : u.software = s.software := by
  induction n generalizing s with
  | zero => cases h; rfl
  | succ n ih =>
    obtain ⟨t, hstep, hrun⟩ := (run_succ_next_iff n s u).1 h
    have hsame := step_software_of_hung hs hstep
    exact (ih (hs.of_software_eq hsame) hrun).trans hsame

/-- Settles O39: a run from a hung write keeps the core and the driver record, which say that it
hangs and which request is next, and the caller, who holds the responses. -/
theorem writeWithInterruptsOffHangs : Obligations.WriteWithInterruptsOffHangs := by
  intro n s t hs hrun
  have hsame := run_software_of_hung n hs hrun
  refine ⟨hs.of_software_eq hsame, ?_⟩
  simp only [State.software, Prod.mk.injEq] at hsame
  obtain ⟨hcore, -, hcaller⟩ := hsame
  exact ⟨congrArg CoreState.next hcore, congrArg Caller.responses hcaller⟩

end Sys2Proof.Machine
